-- ==== Sys2Proof/Word.lean ====
section
/-! DEFINITION. The two value sizes the BGU handles (00_scope.md R9): a byte and a 32-bit word. -/

namespace Sys2Proof

/-- A byte, a value in [0, 255] (R9). Bit 0 has weight 1 (R8). -/
abbrev Byte := BitVec 8

/-- A word, a value in [0, 2^32 - 1] (R9). Bit 0 has weight 1 (R8). -/
abbrev Word := BitVec 32

end Sys2Proof
end

