-- ==== Sys2Proof/Syntax.lean ====
section
/-! DEFINITION. The commands of the BGU: one constructor for each row of opcode_table.json
(30_encoding.md R97). -/

namespace Sys2Proof

/-- The four commands (R97). The operands of BTST are in the spec's order, byte first, bit index
second (R102); `k` is the whole 8-bit field of the word, of which only 0 to 7 is in the bit
test's domain (R96, decision D14). -/
inductive Instr where
  /-- NOP: no operation (R161). -/
  | nop
  /-- UNPK: start unpacking the PackedGrid into the RasterBuffer (R162). -/
  | unpk
  /-- BTST b, k: test bit k of the immediate byte b (R124). -/
  | btst (b k : Byte)
  /-- ABRT: abandon the run or clear DONE (R165). -/
  | abrt
deriving DecidableEq, Repr

end Sys2Proof
end

