-- ==== Sys2Proof/Decode.lean ====
section
/-! DEFINITION. The command word: its fields (30_encoding.md R95, R96), the total decoder (R100)
and the encoder (R97, R102). -/

namespace Sys2Proof

/-- `op = w[31:28]` (R95). -/
def opField (w : Word) : BitVec 4 := w.extractLsb' 28 4

/-- `zero = w[27:16]`, which must be 0 in every legal word (R95, R99). -/
def zeroField (w : Word) : BitVec 12 := w.extractLsb' 16 12

/-- `k = w[15:8]`, unsigned, neither scaled nor sign-extended (R96). -/
def kField (w : Word) : Byte := w.extractLsb' 8 8

/-- `b = w[7:0]`, unsigned (R96). -/
def bField (w : Word) : Byte := w.extractLsb' 0 8

/-- Why a word is ILLEGAL (R100). Both reasons raise IllegalCommand in the same way (R98, R99). -/
inductive Illegal where
  /-- `op` is 0x4 to 0xF (R98). -/
  | reservedOpcode
  /-- `op` is 0x0 to 0x3 and a must-be-zero bit is 1 (R99). -/
  | reservedBits
deriving DecidableEq, Repr

/-- What the decoder answers: one of the four commands, or ILLEGAL with its reason (R100). -/
inductive Decoded where
  | command (i : Instr)
  | illegal (why : Illegal)
deriving DecidableEq, Repr

/-- The total decoder of R100, the four rows in its order. It reads no state (R101). -/
def decode (w : Word) : Decoded :=
  if w &&& 0xFFFFFFFF#32 = 0x00000000#32 then .command .nop
  else if w &&& 0xFFFFFFFF#32 = 0x10000000#32 then .command .unpk
  else if w &&& 0xFFFF0000#32 = 0x20000000#32 then .command (.btst (bField w) (kField w))
  else if w &&& 0xFFFFFFFF#32 = 0x30000000#32 then .command .abrt
  else if opField w < 4#4 then .illegal .reservedBits
  else .illegal .reservedOpcode

/-- A word of format C from its fields, the must-be-zero field 0 (R95): `{op, 0, k, b}`. -/
def formatC (op : BitVec 4) (k b : Byte) : Word := op ++ (0#12 ++ (k ++ b))

/-- The word of a command (R97, R102). -/
def encode : Instr → Word
  | .nop => formatC 0x0#4 0#8 0#8
  | .unpk => formatC 0x1#4 0#8 0#8
  | .btst b k => formatC 0x2#4 k b
  | .abrt => formatC 0x3#4 0#8 0#8

/-- The command a word of opcode_table.json's bit numbering stands for: its low `nbits` bits are
`w`'s, the bits above are 0. A command word is written whole, so it has no byte order (R66). -/
def decodeTableWord (nbits w : Nat) : Option Instr :=
  match decode (BitVec.ofNat 32 (w % 2 ^ nbits)) with
  | .command i => some i
  | .illegal _ => none

end Sys2Proof
end

