-- ==== Sys2Proof/Config.lean ====
section
/-! DEFINITION. What is fixed for one BGU (00_scope.md R6, R7) and the values the spec leaves open
(93_implementation_defined.md U2, U4, U6). -/

namespace Sys2Proof

/-- The two parameters of an instance, constant for its life (R6, decision D2). The constraint
`1 <= W`, `1 <= H`, `W*H <= 2^30` is `Config.wellFormed`. -/
structure Config where
  /-- W, the raster width in cells. -/
  width : Nat
  /-- H, the raster height in cells. -/
  height : Nat
deriving DecidableEq, Repr

/-- NCELLS = W*H (R7). -/
def Config.ncells (c : Config) : Nat := c.width * c.height

/-- RBYTES = 4*NCELLS, the size of the RasterBuffer space in bytes (R7). -/
def Config.rbytes (c : Config) : Nat := 4 * c.ncells

/-- NOMLEN = NCELLS/8, the PackedGrid length for a fully populated board when 8 divides NCELLS (R7).
Where 8 does not divide NCELLS the spec gives NOMLEN no value; the floor quotient here is the model's
(DESIGN CHOICE, assumption log 15), and no flag, limit or transition uses it: SHORT and LONG compare
bits (C7). -/
def Config.nomlen (c : Config) : Nat := c.ncells / 8

/-- The blobgrid board, W = H = 1000 (R6). -/
def Config.blobgrid : Config := { width := 1000, height := 1000 }

/-- PG0: what a PackedGrid byte that nothing has written holds. The spec gives it no value
("any value", U6; open parameter PG0 of 92_eei_decisions.md), so it is a free value: a constant
without a body. Assumption log 2. -/
opaque Config.pg0 : Nat → Byte

/-- RB0: what a RasterBuffer byte that nothing has written holds ("A model must not assume any
value", 20_memory.md R78; U2, U6). A free value. Assumption log 2. -/
opaque Config.rb0 : Nat → Byte

/-- The value a FETCH returns for a byte the host wrote while the block was BUSY: "any value"
(U4, HZ1 of R225). A fresh one for each index of `State.free`. Assumption log 5. -/
opaque Config.freeByte : Nat → Byte

/-- The choices U4 and HZ2 of R225 leave open while the block is BUSY: whether a host read of RB
sees the old or the new pixel, whether a host write to RB survives. Assumption log 6. -/
opaque Config.freeBit : Nat → Bool

end Sys2Proof
end

