-- ==== Sys2Proof/Machine/State.lean ====
section
/-! DEFINITION. The state of the modelled system: the ten registers of the block (10_state.md R20),
its parameters (R48), the two memories of the host (R45), the moves the host and the scheduler make
next (42_unpack_sequencer.md R171), what host reads returned, and the bookkeeping of open values. -/

namespace Sys2Proof.Machine

/-- STATE, the run state of SEQ (R21). Its 2-bit code is internal, so it is a set of names (log 13). -/
inductive RunState where
  /-- IDLE: nothing in progress, no result pending. -/
  | idle
  /-- RUN: a run is in progress; the engine has a step. -/
  | run
  /-- DONE: the last run processed all NLIM cells. -/
  | done
  /-- FAULT: a fault was raised; sticky until reset. -/
  | fault
deriving DecidableEq, Repr

/-- The four faults of the block (60_exceptions.md R190). They are not stops of the model: raising
one is a next state (R195). -/
inductive FaultCause where
  /-- A CMD write whose word decodes to ILLEGAL (R191). -/
  | illegalCommand
  /-- BTST with k > 7 (R192). -/
  | rangeFault
  /-- UNPK while STATE = RUN (R193). -/
  | busyFault
  /-- A cell step whose PG or RB offset is out of bounds (R194). -/
  | boundsFault
deriving DecidableEq, Repr

/-- The bytes of a memory space that something has written: strictly rising offsets. An unlisted
offset holds the space's open initial content (`Config.pg0`, `Config.rb0`; assumption log 2). -/
abbrev Memory := List Host.Cell

/-- The buffer the host has bound to one of the two ports (20_memory.md R61, R62, decision D6). -/
structure Buffer where
  /-- How many bytes of real memory are behind the port (HZ3, HZ4 of R225). -/
  size : Nat
  /-- The bytes written so far. -/
  cells : Memory
deriving DecidableEq, Repr

/-- How the host's own port puts the four bytes of a 32-bit raster read into a word (R66). -/
inductive ByteOrder where
  /-- The byte at the lowest offset is bits[7:0]. -/
  | little
  /-- The byte at the lowest offset is bits[31:24]. -/
  | big
deriving DecidableEq, Repr

/-- One transition of the whole system as the host or the scheduler chooses it (R171, R228; the
lines of the host-script notation R103). -/
inductive HostMove where
  /-- The scheduler gives the engine one turn (`STEP 1` of R103). -/
  | engine
  /-- The host waits until STATE != RUN while the engine runs (`WAIT` of R103). -/
  | wait
  /-- Reset fires (`RESET`; R220). -/
  | reset
  /-- `CsrRead(4*n)` (`RD`; R166). The port carries a 4-bit word number (decision D3). -/
  | csrRead (n : BitVec 4)
  /-- `CsrWrite(4*n, v)` (`WR`, `CMD`, `CMDW`; R167). -/
  | csrWrite (n : BitVec 4) (v : Word)
  /-- The host binds a new PackedGrid of exactly these bytes to the PG port (`PG = [...]`). -/
  | pgPlace (bytes : List Byte)
  /-- The host reads the PG byte at offset o. -/
  | pgRead (o : Nat)
  /-- The host writes the PG byte at offset o. -/
  | pgWrite (o : Nat) (v : Byte)
  /-- The host binds a new raster of exactly these bytes to the RB port (`RB = ...`). -/
  | rbPlace (bytes : List Byte)
  /-- The host reads the RB byte at offset o. -/
  | rbRead (o : Nat)
  /-- The host reads the four bytes of pixel i as one word, little-endian or big-endian (R66, R69). -/
  | rbReadPixel (e : ByteOrder) (i : Nat)
  /-- The host writes the RB byte at offset o. -/
  | rbWrite (o : Nat) (v : Byte)
deriving DecidableEq, Repr

/-- A value a read returned to the host. -/
inductive HostRead where
  | csr (v : Word)
  | byte (v : Byte)
  | pixel (v : Word)
deriving DecidableEq, Repr

/-- The state. The ten registers are exactly those of R20; `cfg` is parameters, not state (R48), and
no transition changes it; the rest is the block's environment and the model's own bookkeeping. -/
structure State where
  /-- W and H (R6), the same in every state of a run. -/
  cfg : Config
  /-- STATE (R21). -/
  runState : RunState
  /-- I, the index of the next cell to process (R22). -/
  cellIdx : Word
  /-- CNT, the set-bit count (R23). -/
  cnt : Word
  /-- NLIM, the run limit (R24). -/
  nlim : Word
  /-- PG_LEN, the PackedGrid's length in bytes as told by the host (R25). -/
  pgLen : Word
  /-- SHORT (R26). -/
  short : Bool
  /-- LONG (R26). -/
  long : Bool
  /-- RESULT, the bit of the last BTST (R27). -/
  result : Bool
  /-- CAUSE (R28). -/
  cause : BitVec 3
  /-- FINFO (R29). -/
  finfo : Word
  /-- The PackedGrid space (R61). -/
  pg : Buffer
  /-- The RasterBuffer space (R62). -/
  rb : Buffer
  /-- The model's own: the raster as it was when the last UNPK was accepted (RB0 of R168). It is the
  "old" of HZ2's mix of old and new pixels (DESIGN CHOICE, assumption logs 6 and 11). -/
  rbOld : Buffer
  /-- The model's own: PG offsets the host wrote since the last UNPK while BUSY (HZ1, U4; logs 5 and 11). -/
  pgTouched : List Nat
  /-- The model's own: RB offsets the host wrote since the last UNPK while BUSY (HZ2, U4; logs 6 and 11). -/
  rbTouched : List Nat
  /-- The model's own: whether the host has read RB since the last UNPK while BUSY (HZ2, BuffersOwned
  of R229; log 11). -/
  rbPeeked : Bool
  /-- The model's own: the index of the next free value (log 11). -/
  free : Nat
  /-- The host's and the scheduler's next moves, first move first (DESIGN CHOICE, logs 7 and 8). -/
  agenda : List HostMove
  /-- What host reads have returned, newest first (log 11). -/
  reads : List HostRead
deriving DecidableEq, Repr

/-- Why the model stops where the spec gives no address. Only host moves raise these; no command
and no engine step does. -/
inductive Fault where
  /-- A host access to a PG offset that needs more than 32 bits: no such offset exists (R61; log 9). Safe. -/
  | pgOffsetAbsent
  /-- A host access to an RB offset at or beyond 4*W*H: no such offset exists (R62; log 9). Safe. -/
  | rbOffsetAbsent
deriving DecidableEq, Repr

/-- Why the model gives a transition no meaning. No command is refused. -/
inductive Refusal where
  /-- An instruction that has no meaning yet. Safe. -/
  | notModelled (mnemonic : String)
  /-- A PG access below PG_LEN (a cell step) or by the host, beyond the memory really behind the PG
  port: "refuse" (HZ3 of R225, U5; log 4). Safe. -/
  | pgNotBacked
  /-- An RB access below 4*W*H, by a cell step or the host, beyond the memory really behind the RB
  port: "refuse" (HZ4 of R225, U5; log 4). Safe. -/
  | rbNotBacked
  /-- The host binds another buffer to a port while BUSY, which the spec excludes and gives no effect
  (decision D6, R103; log 10). Raised by `pgPlace` and `rbPlace`. Safe. -/
  | placedWhileBusy
deriving DecidableEq, Repr

/-- The outcome of a transition. -/
abbrev Result := Host.Outcome State Fault Refusal

/-- The machine right after power-up and reset: the registers of R46 at their reset values, on the
blobgrid board. The memories list nothing (their content is open, U6) and have the nominal sizes of
R71 (assumption log 3); the host has no move waiting (R223). -/
def State.reset : State where
  cfg := Config.blobgrid
  runState := .idle
  cellIdx := 0
  cnt := 0
  nlim := 0
  pgLen := 0
  short := false
  long := false
  result := false
  cause := 0
  finfo := 0
  pg := { size := 125000, cells := [] }
  rb := { size := 4000000, cells := [] }
  rbOld := { size := 4000000, cells := [] }
  pgTouched := []
  rbTouched := []
  rbPeeked := false
  free := 0
  agenda := []
  reads := []

end Sys2Proof.Machine
end

