-- ==== Sys2Proof/Machine/Flags.lean ====
section
/-! DEFINITION. The run limit, the two warning flags, the STATUS word and the cause codes. -/

namespace Sys2Proof.Machine

/-- `8 * PG_LEN`, exact (42_unpack_sequencer.md R162, R172). -/
def gridBits (len : Word) : Nat := 8 * len.toNat

/-- `min(W*H, 8*PG_LEN)`, the number of cells a run processes (R24, R162). -/
def runLimit (c : Config) (len : Word) : Nat := min c.ncells (gridBits len)

/-- SHORT, the source's BufferSizeMismatch: `8*PG_LEN < W*H` (R26). -/
def shortFlag (c : Config) (len : Word) : Bool := decide (gridBits len < c.ncells)

/-- LONG, the source's BufferSizeOverflow: `8*PG_LEN > W*H` (R26). -/
def longFlag (c : Config) (len : Word) : Bool := decide (c.ncells < gridBits len)

/-- The STATUS word (R34): BUSY, DONE, FAULT, SHORT, LONG in bits 0 to 4, the rest 0. -/
def statusWord (r : RunState) (short long : Bool) : Word :=
  0#27 ++ (BitVec.ofBool long ++ (BitVec.ofBool short ++ (BitVec.ofBool (r == .fault) ++
    (BitVec.ofBool (r == .done) ++ BitVec.ofBool (r == .run)))))

/-- The CAUSE code of a fault (R190). -/
def causeCode : FaultCause → BitVec 3
  | .illegalCommand => 1
  | .rangeFault => 2
  | .busyFault => 3
  | .boundsFault => 4

end Sys2Proof.Machine
end

