-- ==== Sys2Proof/Machine/Operands.lean ====
section
/-! DEFINITION. The pure micro-operations of BIX and RPW: SPLIT, TEST (40_bit_index_extractor.md),
MAP and the bytes of a pixel word (41_raster_pixel_writer.md, 30_encoding.md R92 to R94), and the
coordinates of a cell (R143). -/

namespace Sys2Proof.Machine

/-- The byte offset of SPLIT(i), `i div 8` (R120). -/
def splitByte (i : Nat) : Nat := i / 8

/-- The bit index of SPLIT(i), `i mod 8` (R120). -/
def splitBit (i : Nat) : Nat := i % 8

/-- TEST(v, k) for k in [0, 7], as the source writes it: `(v & (1 << k)) != 0` (R122). -/
def testBit (v : Byte) (k : Nat) : Bool := (v &&& (1#8 <<< k)) != 0#8

/-- A bit as a word: 1 for set, 0 for clear. -/
def bitWord (c : Bool) : Word := if c then 1#32 else 0#32

/-- LUT[c], the two-entry colour table (10_state.md R30), which is also MAP(c) (R140): white for a
clear bit, red for a set one. -/
def lut (c : Bool) : Word := if c then 0xFF0000FF#32 else 0xFFFFFFFF#32

/-- Byte n of a pixel word: R, G, B, A for n = 0 to 3 (R92, R94), in store order (R66). -/
def laneByte (p : Word) (n : Nat) : Byte := p.extractLsb' (8 * n) 8

/-- The column of cell i (R143). -/
def column (c : Config) (i : Nat) : Nat := i % c.width

/-- The row of cell i, row 0 at the top (R143). -/
def row (c : Config) (i : Nat) : Nat := i / c.width

/-- The cell at column x and row y (R143). -/
def cellAt (c : Config) (x y : Nat) : Nat := y * c.width + x

/-- The RB offset of the quadruple of cell i (R92). -/
def pixelOffset (i : Nat) : Nat := 4 * i

end Sys2Proof.Machine
end

