-- ==== Sys2Proof/Machine/Ops.lean ====
section
/-! DEFINITION. The named operations over memory and registers: the access primitives of 20_memory.md,
FETCH, EXTRACT, STORE, COUNT and ADVANCE, the register updates of the commands, fault entry
(60_exceptions.md R195) and reset (70_reset_and_hazards.md R220). -/

namespace Sys2Proof.Machine

/-! ### Memory -/

/-- The listed byte at offset o, if one is listed. -/
def Memory.read? : Memory → Nat → Option Byte
  | [], _ => none
  | (a, v) :: m, o => if a = o then some v else Memory.read? m o

/-- Write one byte, keeping the offsets strictly rising. -/
def Memory.write : Memory → Nat → Byte → Memory
  | [], o, v => [(o, v)]
  | (a, x) :: m, o, v =>
    if o < a then (o, v) :: (a, x) :: m
    else if o = a then (o, v) :: m
    else (a, x) :: Memory.write m o v

/-- Write four bytes at offsets o to o+3. -/
def Memory.write4 (m : Memory) (o : Nat) (v0 v1 v2 v3 : Byte) : Memory :=
  (((m.write o v0).write (o + 1) v1).write (o + 2) v2).write (o + 3) v3

/-- The memory that lists exactly these bytes from offset o up. -/
def Memory.place : Nat → List Byte → Memory
  | _, [] => []
  | o, b :: bs => (o, b) :: Memory.place (o + 1) bs

/-- The canonical form: strictly rising offsets. -/
abbrev Memory.wf (m : Memory) : Prop := m.Pairwise (fun x y => x.1 < y.1)

/-- A buffer is canonical, and lists no offset beyond its size. -/
abbrev Buffer.wf (b : Buffer) : Prop := b.cells.wf ∧ ∀ c ∈ b.cells, c.1 < b.size

/-- A fresh buffer of exactly these bytes. -/
def Buffer.ofBytes (bytes : List Byte) : Buffer :=
  { size := bytes.length, cells := Memory.place 0 bytes }

/-- Write one byte of a buffer. -/
def Buffer.write (b : Buffer) (o : Nat) (v : Byte) : Buffer :=
  { b with cells := b.cells.write o v }

/-- `MemRead(PG, a, 1)` as to the content alone: the byte of the PackedGrid at offset a (R67). -/
def State.pgByte (s : State) (a : Nat) : Byte := (s.pg.cells.read? a).getD (Config.pg0 a)

/-- The byte of a raster at offset o. -/
def Buffer.rbByte (b : Buffer) (o : Nat) : Byte := (b.cells.read? o).getD (Config.rb0 o)

/-- The four bytes of pixel i as one word: read little-endian, or byte-reversed by a host that reads
big-endian (R66). -/
def Buffer.rbPixel (b : Buffer) (e : ByteOrder) (i : Nat) : Word :=
  match e with
  | .little => b.rbByte (pixelOffset i + 3) ++ (b.rbByte (pixelOffset i + 2) ++
      (b.rbByte (pixelOffset i + 1) ++ b.rbByte (pixelOffset i)))
  | .big => b.rbByte (pixelOffset i) ++ (b.rbByte (pixelOffset i + 1) ++
      (b.rbByte (pixelOffset i + 2) ++ b.rbByte (pixelOffset i + 3)))

/-! ### Ownership while BUSY -/

/-- The part of BuffersOwned that what a run does depends on, so far: since the last UNPK the host has
written no PG and no RB byte while the block was BUSY. A read of RB changes nothing the run uses. -/
def State.unwritten (s : State) : Bool := s.pgTouched.isEmpty && s.rbTouched.isEmpty

/-- BuffersOwned of R229 so far: since the last UNPK the host has, while the block was BUSY, written no
PG byte and neither read nor written RB. -/
def State.owned (s : State) : Bool := s.unwritten && !s.rbPeeked

/-- The free values a cell step may use, which it passes over: none while the host has written neither
buffer. -/
def State.spendCell (s : State) : State :=
  { s with free := s.free + (if s.unwritten then 0 else 4) }

/-! ### The micro-operations of a cell step -/

/-- FETCH(a) (40_bit_index_extractor.md R121): the PG byte, or any value where the host has written
that byte during the run (HZ1, U4; log 5). -/
def State.fetch (s : State) (a : Nat) : Byte :=
  if s.pgTouched.contains a then Config.freeByte s.free else s.pgByte a

/-- EXTRACT(i) on the PackedGrid as it stands: the value of cell i (R90, R123). -/
def State.extract (s : State) (i : Nat) : Bool := testBit (s.pgByte (splitByte i)) (splitBit i)

/-- The bit a cell step extracts for cell i: TEST of what FETCH returns. -/
def State.fetchedBit (s : State) (i : Nat) : Bool := testBit (s.fetch (splitByte i)) (splitBit i)

/-- The byte at RB offset a+n after the engine has stored the word p at a: byte n of p; where the
host has written that byte during the run its write may instead survive (HZ2, U4; log 6). -/
def State.settled (s : State) (a n : Nat) (p : Word) : Byte :=
  if s.rbTouched.contains (a + n) && Config.freeBit (s.free + n) then s.rb.rbByte (a + n)
  else laneByte p n

/-- `MemWrite(RB, a, 4, p)`, little-endian and indivisible (R66, R67, R69). -/
def State.memWriteRb (s : State) (a : Nat) (p : Word) : State :=
  { s with rb := { s.rb with cells := s.rb.cells.write4 a (s.settled a 0 p) (s.settled a 1 p)
                                        (s.settled a 2 p) (s.settled a 3 p) } }

/-- STORE(i, p) (41_raster_pixel_writer.md R141). -/
def State.storePixel (s : State) (i : Nat) (p : Word) : State := s.memWriteRb (pixelOffset i) p

/-- COUNT(c) (R142). -/
def State.count (s : State) (c : Bool) : State := { s with cnt := s.cnt + bitWord c }

/-- ADVANCE: `I <- I + 1` (R163). -/
def State.advance (s : State) : State := { s with cellIdx := s.cellIdx + 1 }

/-! ### Register updates of the commands and of the host -/

/-- What UNPK writes in IDLE and DONE (R162): NLIM, SHORT, LONG, I, CNT, STATE. The model also notes
the raster before the run and that the host has touched neither buffer yet (HZ1, HZ2). -/
def State.startRun (s : State) : State :=
  { s with
    nlim := BitVec.ofNat 32 (runLimit s.cfg s.pgLen)
    short := shortFlag s.cfg s.pgLen
    long := longFlag s.cfg s.pgLen
    cellIdx := 0
    cnt := 0
    runState := .run
    rbOld := s.rb
    pgTouched := []
    rbTouched := []
    rbPeeked := false }

/-- `RESULT <- c` (R124). -/
def State.setResult (s : State) (c : Bool) : State := { s with result := c }

/-- `STATE <- r`, for ABRT (R165) and the completion step (R164). -/
def State.setRunState (s : State) (r : RunState) : State := { s with runState := r }

/-- `PG_LEN <- v` (R35). -/
def State.setPgLen (s : State) (v : Word) : State := { s with pgLen := v }

/-- The moves still to come. -/
def State.setAgenda (s : State) (rest : List HostMove) : State := { s with agenda := rest }

/-- A read has returned r to the host. -/
def State.logRead (s : State) (r : HostRead) : State := { s with reads := r :: s.reads }

/-- One free value has been used. -/
def State.spendOne (s : State) : State := { s with free := s.free + 1 }

/-- Another buffer, or other content, behind the PG port. -/
def State.setPg (s : State) (b : Buffer) : State := { s with pg := b }

/-- Another buffer, or other content, behind the RB port. -/
def State.setRb (s : State) (b : Buffer) : State := { s with rb := b }

/-- The host has written PG offset o while BUSY. -/
def State.touchPg (s : State) (o : Nat) : State := { s with pgTouched := o :: s.pgTouched }

/-- The host has written RB offset o while BUSY. -/
def State.touchRb (s : State) (o : Nat) : State := { s with rbTouched := o :: s.rbTouched }

/-! ### Fault entry and reset -/

/-- Fault entry `raise F(info)` (R195): `CAUSE <- n`, `FINFO <- info`, `STATE <- FAULT`, nothing
else. There is no return from it but reset (R198). -/
def State.raise (s : State) (f : FaultCause) (info : Word) : State :=
  { s with cause := causeCode f, finfo := info, runState := .fault }

/-- Reset (R220): the ten registers to their reset values; memory is not touched (R221). -/
def State.fireReset (s : State) : State :=
  { s with
    runState := .idle
    cellIdx := 0
    cnt := 0
    nlim := 0
    pgLen := 0
    short := false
    long := false
    result := false
    cause := 0
    finfo := 0 }

end Sys2Proof.Machine
end

