-- ==== Sys2Proof/Machine/Bix.lean ====
section
/-! DEFINITION. The command of BIX: BTST (40_bit_index_extractor.md R124). -/

namespace Sys2Proof.Machine

/-- BTST b, k (R124): ignored in FAULT (R160 line 1); RangeFault with the command word when k > 7
(R160 line 4, R192); else `RESULT <- TEST(b, k)`. No other state is written, so a run goes on. -/
def execBtst (b k : Byte) (s : State) : Result :=
  if s.runState = .fault then .next s
  else if 7 < k.toNat then .next (s.raise .rangeFault (encode (.btst b k)))
  else .next (s.setResult (testBit b k.toNat))

end Sys2Proof.Machine
end

