-- ==== Sys2Proof/Machine/Seq.lean ====
section
/-! DEFINITION. The commands of SEQ: NOP, UNPK, ABRT (42_unpack_sequencer.md R160 to R162, R165). -/

namespace Sys2Proof.Machine

/-- NOP (R161): nothing, in every STATE. -/
def execNop (s : State) : Result := .next s

/-- UNPK (R162): ignored in FAULT, BusyFault in RUN (R193), else a run starts. -/
def execUnpk (s : State) : Result :=
  match s.runState with
  | .fault => .next s
  | .run => .next (s.raise .busyFault (encode .unpk))
  | .idle => .next s.startRun
  | .done => .next s.startRun

/-- ABRT (R165): `if STATE = RUN or STATE = DONE then STATE <- IDLE`. -/
def execAbrt (s : State) : Result :=
  match s.runState with
  | .fault => .next s
  | .idle => .next s
  | .run => .next (s.setRunState .idle)
  | .done => .next (s.setRunState .idle)

end Sys2Proof.Machine
end

