-- ==== Sys2Proof/Machine/Dispatch.lean ====
section
/-! DEFINITION. Dispatch of a decoded command to its meaning (42_unpack_sequencer.md R160). -/

namespace Sys2Proof.Machine

def exec (i : Instr) (s : State) : Host.Outcome State Fault Refusal :=
  match i with
  | .nop => Sys2Proof.Machine.execNop s
  | .unpk => Sys2Proof.Machine.execUnpk s
  | .btst b k => Sys2Proof.Machine.execBtst b k s
  | .abrt => Sys2Proof.Machine.execAbrt s

end Sys2Proof.Machine
end

