-- ==== Sys2Proof/Machine/Engine.lean ====
section
/-! DEFINITION. The engine's two transitions: the cell step (42_unpack_sequencer.md R163) and the
completion step (R164). -/

namespace Sys2Proof.Machine

/-- All the writes of a cell step that neither check stops: STORE, COUNT and ADVANCE on the values of
the state before it (R163, 00_scope.md R10). -/
def State.processCell (s : State) : State :=
  (((s.storePixel s.cellIdx.toNat (lut (s.fetchedBit s.cellIdx.toNat))).count
    (s.fetchedBit s.cellIdx.toNat)).spendCell).advance

/-- The cell step (R163) with its two bounds checks in order. A read or write inside the bounds but
beyond the memory really behind the port is refused (HZ3, HZ4; U5; log 4). -/
def cellStep (s : State) : Result :=
  if ¬ splitByte s.cellIdx.toNat < s.pgLen.toNat then .next (s.raise .boundsFault s.cellIdx)
  else if ¬ splitByte s.cellIdx.toNat < s.pg.size then .refused .pgNotBacked
  else if ¬ pixelOffset s.cellIdx.toNat + 3 < s.cfg.rbytes then
    .next (s.raise .boundsFault s.cellIdx)
  else if ¬ pixelOffset s.cellIdx.toNat + 3 < s.rb.size then .refused .rbNotBacked
  else .next s.processCell

/-- The engine's step: the cell step when STATE = RUN and I < NLIM, the completion step when
STATE = RUN and I = NLIM. In any other state the engine has no step and nothing changes (R21, R171;
I > NLIM never holds, R164; DESIGN CHOICE, log 12). -/
def engineStep (s : State) : Result :=
  if s.runState = .run then
    if s.cellIdx < s.nlim then cellStep s
    else if s.cellIdx = s.nlim then .next (s.setRunState .done)
    else .next s
  else .next s

end Sys2Proof.Machine
end

