-- ==== Sys2Proof/Machine/HostPort.lean ====
section
/-! DEFINITION. What the host does to the block and its memories: CSR reads and writes
(42_unpack_sequencer.md R166, R167), reset, and accesses to PG and RB (20_memory.md R60, R77), and
the one transition the agenda chooses next (R171). -/

namespace Sys2Proof.Machine

/-- `CsrRead(4*n)`: the value of CSR word n (10_state.md R32 to R44). CMD and the reserved words
read 0. -/
def csrValue (s : State) (n : BitVec 4) : Word :=
  match n.toNat with
  | 0x1 => statusWord s.runState s.short s.long
  | 0x2 => s.pgLen
  | 0x3 => BitVec.ofNat 32 s.cfg.width
  | 0x4 => BitVec.ofNat 32 s.cfg.height
  | 0x5 => s.cnt
  | 0x6 => s.cellIdx
  | 0x7 => s.nlim
  | 0x8 => bitWord s.result
  | 0x9 => s.cause.setWidth 32
  | 0xA => s.finfo
  | 0xB => lut false
  | 0xC => lut true
  | _ => 0

/-- A write of w to CMD (R160): ignored in FAULT; IllegalCommand for an ILLEGAL word; else the
command, whose meaning holds lines 4 to 6 of R160. -/
def command (w : Word) (s : State) : Result :=
  match decode w with
  | .command i => exec i s
  | .illegal _ => if s.runState = .fault then .next s else .next (s.raise .illegalCommand w)

/-- A write of v to PG_LEN (R35): ignored in RUN and FAULT. -/
def writePgLen (v : Word) (s : State) : Result :=
  match s.runState with
  | .idle => .next (s.setPgLen v)
  | .done => .next (s.setPgLen v)
  | .run => .next s
  | .fault => .next s

/-- `CsrWrite(4*n, v)` (R167): CMD, PG_LEN, and nothing for every other word. -/
def csrWrite (n : BitVec 4) (v : Word) (s : State) : Result :=
  match n.toNat with
  | 0x0 => command v s
  | 0x2 => writePgLen v s
  | _ => .next s

/-- The host binds a PackedGrid of exactly these bytes to the PG port, when not BUSY (R61, R103). -/
def pgPlace (bytes : List Byte) (s : State) : Result :=
  if s.runState = .run then .refused .placedWhileBusy
  else if 2 ^ 32 < bytes.length then .fault .pgOffsetAbsent
  else .next (s.setPg (Buffer.ofBytes bytes))

/-- The host binds a raster of exactly these bytes to the RB port, when not BUSY (R62, R103). -/
def rbPlace (bytes : List Byte) (s : State) : Result :=
  if s.runState = .run then .refused .placedWhileBusy
  else if s.cfg.rbytes < bytes.length then .fault .rbOffsetAbsent
  else .next (s.setRb (Buffer.ofBytes bytes))

/-- The host reads a PG byte: plain memory, no side effect (R70), in every STATE (log 9). -/
def pgRead (o : Nat) (s : State) : Result :=
  if ¬ o < 2 ^ 32 then .fault .pgOffsetAbsent
  else if ¬ o < s.pg.size then .refused .pgNotBacked
  else .next (s.logRead (.byte (s.pgByte o)))

/-- The host writes a PG byte (R70). While BUSY the write breaks HZ1: the byte is noted, and every
later FETCH of it in this run returns any value (U4, log 5). -/
def pgWrite (o : Nat) (v : Byte) (s : State) : Result :=
  if ¬ o < 2 ^ 32 then .fault .pgOffsetAbsent
  else if ¬ o < s.pg.size then .refused .pgNotBacked
  else if s.runState = .run then .next ((s.setPg (s.pg.write o v)).touchPg o)
  else .next (s.setPg (s.pg.write o v))

/-- The raster a host read sees: the raster as it is when not BUSY; while BUSY the read breaks HZ2
and sees the pixel as it is or as it was before the run, whole pixels only (R69, R225, U4; DESIGN
CHOICE, log 6). -/
def State.visibleRb (s : State) : Buffer :=
  if s.runState = .run && Config.freeBit s.free then s.rbOld else s.rb

/-- The host has read RB. While BUSY that breaks HZ2 and BuffersOwned (R229), which is noted, and uses
up one free choice. -/
def State.noteRbRead (s : State) : State :=
  { s with
    free := s.free + (if s.runState = .run then 1 else 0)
    rbPeeked := s.rbPeeked || decide (s.runState = .run) }

/-- The host reads an RB byte. -/
def rbRead (o : Nat) (s : State) : Result :=
  if ¬ o < s.cfg.rbytes then .fault .rbOffsetAbsent
  else if ¬ o < s.rb.size then .refused .rbNotBacked
  else .next ((s.logRead (.byte (s.visibleRb.rbByte o))).noteRbRead)

/-- The host reads the four bytes of pixel i with one 32-bit access, little-endian or big-endian (R66,
R69). -/
def rbReadPixel (e : ByteOrder) (i : Nat) (s : State) : Result :=
  if ¬ pixelOffset i + 3 < s.cfg.rbytes then .fault .rbOffsetAbsent
  else if ¬ pixelOffset i + 3 < s.rb.size then .refused .rbNotBacked
  else .next ((s.logRead (.pixel (s.visibleRb.rbPixel e i))).noteRbRead)

/-- Whether a host write to RB while BUSY lands: always in a pixel the engine has yet to write (its
STORE decides later whether it survives, `State.settled`), by a free choice in a pixel already
written ("may be overwritten or may survive", HZ2 of R225, U4; DESIGN CHOICE, log 6). -/
def State.writeLands (s : State) (o : Nat) : Bool :=
  decide (pixelOffset s.cellIdx.toNat ≤ o) || Config.freeBit s.free

/-- A host write to RB while BUSY. The offset is noted in either case: HZ2 is broken. -/
def State.contendedWrite (s : State) (o : Nat) (v : Byte) : State :=
  ((s.setRb (if s.writeLands o then s.rb.write o v else s.rb)).touchRb o).spendOne

/-- The host writes an RB byte. -/
def rbWrite (o : Nat) (v : Byte) (s : State) : Result :=
  if ¬ o < s.cfg.rbytes then .fault .rbOffsetAbsent
  else if ¬ o < s.rb.size then .refused .rbNotBacked
  else if s.runState = .run then .next (s.contendedWrite o v)
  else .next (s.setRb (s.rb.write o v))

/-- One move, the moves after it being `rest` (R171). A `wait` stays the next move while the engine
runs (R103). -/
def takeMove (m : HostMove) (rest : List HostMove) (s : State) : Result :=
  match m with
  | .engine => engineStep (s.setAgenda rest)
  | .wait => if s.runState = .run then engineStep s else .next (s.setAgenda rest)
  | .reset => .next (s.setAgenda rest).fireReset
  | .csrRead n => .next ((s.setAgenda rest).logRead (.csr (csrValue s n)))
  | .csrWrite n v => csrWrite n v (s.setAgenda rest)
  | .pgPlace bytes => pgPlace bytes (s.setAgenda rest)
  | .pgRead o => pgRead o (s.setAgenda rest)
  | .pgWrite o v => pgWrite o v (s.setAgenda rest)
  | .rbPlace bytes => rbPlace bytes (s.setAgenda rest)
  | .rbRead o => rbRead o (s.setAgenda rest)
  | .rbReadPixel e i => rbReadPixel e i (s.setAgenda rest)
  | .rbWrite o v => rbWrite o v (s.setAgenda rest)

/-- One transition of the whole system (R171): the next move of the agenda; with no move waiting,
the engine's step (fairness, R231), which is no change when the engine has none (DESIGN CHOICE,
log 8). -/
def systemStep (s : State) : Result :=
  match s.agenda with
  | [] => engineStep s
  | m :: rest => takeMove m rest s

/-- The CSR write that carries a command word, the word's bits above `nbits` being 0. -/
def commandMove (nbits w : Nat) : HostMove := .csrWrite 0 (BitVec.ofNat 32 (w % 2 ^ nbits))

end Sys2Proof.Machine
end

