-- ==== Sys2Proof/Machine/Step.lean ====
section
/-! DEFINITION. One step of the machine: one atomic transition of R171. -/

namespace Sys2Proof.Machine

/-- One atomic transition of the system (42_unpack_sequencer.md R171). -/
def step (s : State) : Host.Outcome State Fault Refusal := systemStep s

/-- s with a CMD write of the word as its very next transition: commands are not fetched, they
"arrive one at a time through CMD and are executed when written" (20_memory.md R76; log 7). -/
def State.withFetchWord (s : State) (nbits w : Nat) : State :=
  s.setAgenda (commandMove nbits w :: s.agenda)

end Sys2Proof.Machine
end

