-- ==== Sys2Proof/WellFormed.lean ====
section
/-! DEFINITION. Which parameters an instance may have (00_scope.md R6) and which command terms
stand for a command word (30_encoding.md R97). -/

namespace Sys2Proof

/-- The constraint of R6 on the parameters: `1 <= W`, `1 <= H` and `W*H <= 2^30`. -/
def Config.wellFormed (c : Config) : Bool :=
  decide (1 ≤ c.width) && decide (1 ≤ c.height) && decide (c.ncells ≤ 2 ^ 30)

/-- The must-be-zero operands of a format C word (R95): a raw word is the word of some command
exactly when this holds (R97 to R99). A command TERM needs no check of its own: its operands have
the 8 bits of their fields by type, so every `Instr` has a word. -/
def wellFormedWord (w : Word) : Bool :=
  decide (opField w < 4#4) && decide (zeroField w = 0#12) &&
    (decide (opField w = 2#4) || (decide (kField w = 0#8) && decide (bField w = 0#8)))

/-- A command is well formed when the word written for it meets the constraints of its row. -/
def Instr.wellFormed (i : Instr) : Bool := wellFormedWord (encode i)

end Sys2Proof
end

