-- ==== Sys2Proof/Safety.lean ====
section
/-! DEFINITION. The terms claims use: the invariants of 10_state.md R47, the loop invariant of
42_unpack_sequencer.md R169, and the launch premises of 70_reset_and_hazards.md R229. -/

namespace Sys2Proof.Machine

/-- The invariants of R47 (items 1 to 6), with R26's meaning of the flags during a run, R28's range
of CAUSE, R29's FINFO = 0 without a fault, the parameter constraint R6, and the canonical form of
the model's memories. -/
structure State.Inv (s : State) : Prop where
  cfg_ok : s.cfg.wellFormed = true
  idx_le : s.cellIdx.toNat ≤ s.nlim.toNat
  nlim_le : s.nlim.toNat ≤ s.cfg.ncells
  cnt_le : s.cnt.toNat ≤ s.cellIdx.toNat
  run_nlim : s.runState = .run → s.nlim.toNat = runLimit s.cfg s.pgLen
  run_short : s.runState = .run → s.short = shortFlag s.cfg s.pgLen
  run_long : s.runState = .run → s.long = longFlag s.cfg s.pgLen
  done_idx : s.runState = .done → s.cellIdx = s.nlim
  not_both : ¬ (s.short = true ∧ s.long = true)
  cause_iff : s.cause = 0 ↔ s.runState ≠ .fault
  cause_le : s.cause.toNat ≤ 4
  finfo_zero : s.cause = 0 → s.finfo = 0
  pg_wf : s.pg.wf
  rb_wf : s.rb.wf
  rbOld_wf : s.rbOld.wf

/-- Item 7 of R47, which holds once an UNPK has been accepted since reset: `NLIM = W*H` iff
SHORT = 0. -/
def State.LimitMatchesShort (s : State) : Prop :=
  s.nlim.toNat = s.cfg.ncells ↔ s.short = false

/-- The loop invariant of R169 at I = n: pixels 0 to n-1 show their cells, every raster byte at or
above 4*n is as it was before the run, and CNT is the number of set cells below n. -/
structure State.LoopInv (s : State) : Prop where
  pixels : ∀ j < s.cellIdx.toNat, ∀ n < 4,
    s.rb.rbByte (pixelOffset j + n) = laneByte (lut (s.extract j)) n
  rest : ∀ o, pixelOffset s.cellIdx.toNat ≤ o → s.rb.rbByte o = s.rbOld.rbByte o
  count : s.cnt.toNat = (List.range s.cellIdx.toNat).countP (fun j => s.extract j)

/-- While a run is in progress and the host has written neither buffer (HZ1, and HZ2 as to writes), the
loop invariant holds. -/
def State.RunOnTrack (s : State) : Prop :=
  s.runState = .run → s.unwritten = true → s.LoopInv

/-- LenHonest of R229 as to the memory: all PG_LEN bytes are backed (HZ3). What they hold is
`State.HoldsGrid`. -/
def State.LenHonest (s : State) : Prop := s.pgLen.toNat ≤ s.pg.size

/-- RasterProvided of R229: all 4*W*H raster bytes are backed by real memory (HZ4). -/
def State.RasterProvided (s : State) : Prop := s.cfg.rbytes ≤ s.rb.size

/-- NoFault and NotBusy of R229: STATE is IDLE or DONE, hence not FAULT. -/
def State.Ready (s : State) : Prop := s.runState = .idle ∨ s.runState = .done

/-- k transitions of the system, stopping where one gives no next state. -/
def State.runFor (k : Nat) (s : State) : Result := Host.Core.run Sys2Proof.core k s

/-- LenSet of R229: PG_LEN is the number of bytes of the PackedGrid the host means. That it was written
in IDLE or DONE is the only way it can have come there (R35). -/
def State.LenSet (s : State) (grid : List Byte) : Prop := s.pgLen.toNat = grid.length

/-- The rest of LenHonest of R229: the PG memory holds the PackedGrid the host means, from offset 0. -/
def State.HoldsGrid (s : State) (grid : List Byte) : Prop :=
  ∀ (a : Nat) (h : a < grid.length), s.pgByte a = grid[a]

/-- u is reached from s, the state an accepted UNPK leaves, by k transitions, and the run is still in
progress in u and was in every state on the way (R170). -/
def State.InRun (s : State) (k : Nat) (u : State) : Prop :=
  s.runFor k = .next u ∧ ∀ j ≤ k, ∀ v, s.runFor j = .next v → v.runState = .run

/-- The next move is an access of the host to PG or RB that BuffersOwned of R229 rules out: it writes PG,
or reads or writes RB. -/
def HostMove.touchesBuffers : HostMove → Bool
  | .pgPlace _ => true
  | .pgWrite _ _ => true
  | .rbPlace _ => true
  | .rbRead _ => true
  | .rbReadPixel _ _ => true
  | .rbWrite _ _ => true
  | .engine => false
  | .wait => false
  | .reset => false
  | .csrRead _ => false
  | .csrWrite _ _ => false
  | .pgRead _ => false

/-- A command word that NoInterference of R229 rules out during a run: one that faults (an ILLEGAL word,
BTST with k > 7, UNPK while BUSY), or ABRT. -/
def interferingWord (w : Word) : Bool :=
  match decode w with
  | .command .nop => false
  | .command .unpk => true
  | .command (.btst _ k) => decide (7 < k.toNat)
  | .command .abrt => true
  | .illegal _ => true

/-- The next move ends a run other than by completing it: an interfering command, or reset. -/
def HostMove.interferes : HostMove → Bool
  | .reset => true
  | .csrWrite n v => decide (n = 0) && interferingWord v
  | .pgPlace _ => false
  | .pgWrite _ _ => false
  | .rbPlace _ => false
  | .rbRead _ => false
  | .rbReadPixel _ _ => false
  | .rbWrite _ _ => false
  | .engine => false
  | .wait => false
  | .csrRead _ => false
  | .pgRead _ => false

/-- The next move, while STATE = RUN, is a step of the engine. -/
def HostMove.isEngineTurn : HostMove → Bool
  | .engine => true
  | .wait => true
  | .reset => false
  | .csrRead _ => false
  | .csrWrite _ _ => false
  | .pgPlace _ => false
  | .pgRead _ => false
  | .pgWrite _ _ => false
  | .rbPlace _ => false
  | .rbRead _ => false
  | .rbReadPixel _ _ => false
  | .rbWrite _ _ => false

/-- The engine takes the next step of s, if STATE = RUN: no move is waiting, or an engine turn is next. -/
def State.EngineNext (s : State) : Prop := ∀ m, s.agenda.head? = some m → m.isEngineTurn = true

/-- BuffersOwned of R229, of the state an accepted UNPK leaves and the schedule it holds: until the first
state with STATE != RUN the host writes no PG byte and neither reads nor writes RB. -/
def State.BuffersOwned (s : State) : Prop :=
  ∀ k u, s.InRun k u → ∀ m, u.agenda.head? = some m → m.touchesBuffers = false

/-- NoInterference of R229, of the state an accepted UNPK leaves and the schedule it holds: until the end
of the run the host writes no command that faults, no ABRT, and fires no reset. -/
def State.NoInterference (s : State) : Prop :=
  ∀ k u, s.InRun k u → ∀ m, u.agenda.head? = some m → m.interferes = false

/-- Fair of R229 and R231: from every state of the run the engine's turn comes after finitely many
transitions, unless the run has ended (or the model has stopped at a host access) before. -/
def State.Fair (s : State) : Prop :=
  ∀ k u, s.InRun k u → ∃ j, ∀ v, u.runFor j = .next v → v.runState ≠ .run ∨ v.EngineNext

/-- The next move is an access of the host to PG or RB: the only moves but engine turns at which the model
can stop. -/
def HostMove.isMemoryAccess : HostMove → Bool
  | .pgPlace _ => true
  | .pgRead _ => true
  | .pgWrite _ _ => true
  | .rbPlace _ => true
  | .rbRead _ => true
  | .rbReadPixel _ _ => true
  | .rbWrite _ _ => true
  | .engine => false
  | .wait => false
  | .reset => false
  | .csrRead _ => false
  | .csrWrite _ _ => false

/-- The next move is a host access that may change the PackedGrid. -/
def HostMove.mayChangePg : HostMove → Bool
  | .pgPlace _ => true
  | .pgWrite _ _ => true
  | .engine => false
  | .wait => false
  | .reset => false
  | .csrRead _ => false
  | .csrWrite _ _ => false
  | .pgRead _ => false
  | .rbPlace _ => false
  | .rbRead _ => false
  | .rbReadPixel _ _ => false
  | .rbWrite _ _ => false

/-- The next move is a host access that may change the raster. -/
def HostMove.mayChangeRb : HostMove → Bool
  | .rbPlace _ => true
  | .rbWrite _ _ => true
  | .engine => false
  | .wait => false
  | .reset => false
  | .csrRead _ => false
  | .csrWrite _ _ => false
  | .pgPlace _ => false
  | .pgRead _ => false
  | .pgWrite _ _ => false
  | .rbRead _ => false
  | .rbReadPixel _ _ => false

/-- The outcome with its next state, if it has one, changed by f: how two runs are compared. -/
def onNext (f : State → State) : Result → Result
  | .next s => .next (f s)
  | .fault r => .fault r
  | .refused r => .refused r

/-- The same state on a board of another shape (R6). -/
def State.reshape (s : State) (c : Config) : State := { s with cfg := c }

/-- The state with the three flags and the set-bit count blanked: what must not depend on them stays
visible (R23, R26). -/
def State.hideFlags (s : State) : State :=
  { s with short := false, long := false, result := false, cnt := 0 }

/-- The state with the bytes of the raster blanked: what must not depend on them stays visible
(R48, R145). -/
def State.hideRaster (s : State) : State :=
  { s with rb := { s.rb with cells := [] }, rbOld := { s.rbOld with cells := [] } }

/-- The next move is a read whose value the flags or the count may show: a CSR read. -/
def HostMove.isCsrRead : HostMove → Bool
  | .csrRead _ => true
  | .engine => false
  | .wait => false
  | .reset => false
  | .csrWrite _ _ => false
  | .pgPlace _ => false
  | .pgRead _ => false
  | .pgWrite _ _ => false
  | .rbPlace _ => false
  | .rbRead _ => false
  | .rbReadPixel _ _ => false
  | .rbWrite _ _ => false

/-- The next move is a host read of the raster. -/
def HostMove.isRbRead : HostMove → Bool
  | .rbRead _ => true
  | .rbReadPixel _ _ => true
  | .engine => false
  | .wait => false
  | .reset => false
  | .csrRead _ => false
  | .csrWrite _ _ => false
  | .pgPlace _ => false
  | .pgRead _ => false
  | .pgWrite _ _ => false
  | .rbPlace _ => false
  | .rbWrite _ _ => false

end Sys2Proof.Machine
end

