-- ==== Sys2Proof/Certificates/Slice0/Obligations.lean ====
section
/-! DEFINITION. The statements for the provers. Each docstring names the rule of the spec it
formalises. -/

open Sys2Proof Sys2Proof.Machine

/-! ### Encoding -/

/-- R95, R97, R100: every command, with every operand its fields admit, is a well-formed instruction
whose word decodes back to it. -/
def Obligations.EncodedCommandsDecodeBack : Prop :=
  ∀ i : Instr, i.wellFormed = true ∧ decode (encode i) = .command i

/-- R97 to R100: the legal words are exactly those that meet a row's must-be-zero constraints, and a
legal word is the encoding of the command it decodes to (no two words decode to one command). -/
def Obligations.LegalWordsAreExactlyTheEncodings : Prop :=
  ∀ w : Word, (∀ i, decode w = .command i → encode i = w) ∧
    ((∃ i, decode w = .command i) ↔ wellFormedWord w = true)

/-- R97: a word is the command of a row iff `(w & mask) = match`; ops 0x4 to 0xF have no row. -/
def Obligations.OpcodeRowsSelectTheCommand : Prop :=
  ∀ w : Word,
    (decode w = .command .nop ↔ w &&& 0xFFFFFFFF#32 = 0x00000000#32) ∧
    (decode w = .command .unpk ↔ w &&& 0xFFFFFFFF#32 = 0x10000000#32) ∧
    ((∃ b k, decode w = .command (.btst b k)) ↔ w &&& 0xFFFF0000#32 = 0x20000000#32) ∧
    (∀ b k, decode w = .command (.btst b k) →
      b = w.extractLsb' 0 8 ∧ k = w.extractLsb' 8 8) ∧
    (decode w = .command .abrt ↔ w &&& 0xFFFFFFFF#32 = 0x30000000#32) ∧
    (4#4 ≤ w.extractLsb' 28 4 → ∀ i, decode w ≠ .command i)

/-- R98, R99: a reserved opcode, or a must-be-zero bit that is 1, makes a word ILLEGAL. -/
def Obligations.ReservedWordsAreIllegal : Prop :=
  ∀ w : Word,
    (4#4 ≤ w.extractLsb' 28 4 → decode w = .illegal .reservedOpcode) ∧
    (w.extractLsb' 28 4 < 4#4 →
      (w.extractLsb' 16 12 ≠ 0#12 ∨ (w.extractLsb' 28 4 ≠ 2#4 ∧ w.extractLsb' 0 16 ≠ 0#16)) →
      decode w = .illegal .reservedBits)

/-- R99, R102: the words the spec spells out decode to what it says they are. -/
def Obligations.SpecExampleWordsDecode : Prop :=
  decode 0x00000000#32 = .command .nop ∧ decode 0x10000000#32 = .command .unpk ∧
  decode 0x30000000#32 = .command .abrt ∧ decode 0x20000205#32 = .command (.btst 0x05#8 2#8) ∧
  decode 0x20000780#32 = .command (.btst 0x80#8 7#8) ∧
  decode 0x200008FF#32 = .command (.btst 0xFF#8 8#8) ∧
  decode 0x10000001#32 = .illegal .reservedBits ∧ decode 0x20010000#32 = .illegal .reservedBits ∧
  decode 0x40000000#32 = .illegal .reservedOpcode

/-! ### Steps and dispatch -/

/-- R76, R160: when the next move writes a legal word to CMD, the step is the meaning of the decoded
command, on the state with that move taken. -/
def Obligations.StepRunsTheDecodedCommand : Prop :=
  ∀ (s : State) (w : Word) (rest : List HostMove) (i : Instr),
    s.agenda = .csrWrite 0 w :: rest → decode w = .command i →
    step s = exec i { s with agenda := rest }

/-- R76: a command placed as the next CMD write is the very next thing the machine runs, whatever
the state. -/
def Obligations.PlacedCommandRunsNext : Prop :=
  ∀ (s : State) (i : Instr), step (s.withFetchWord 32 (encode i).toNat) = exec i s

/-- R191: IllegalCommand, cause 1, in every state but FAULT, with the word in FINFO and nothing else
changed (R195). -/
def Obligations.IllegalWordRaisesIllegalCommand : Prop :=
  ∀ (s : State) (w : Word) (rest : List HostMove),
    s.agenda = .csrWrite 0 w :: rest → s.runState ≠ .fault →
    (4#4 ≤ w.extractLsb' 28 4 ∨ w.extractLsb' 16 12 ≠ 0#12 ∨
      (w.extractLsb' 28 4 ≠ 2#4 ∧ w.extractLsb' 0 16 ≠ 0#16)) →
    step s = .next { s with agenda := rest, cause := 1, finfo := w, runState := .fault }

/-- R171, R231: with no move waiting the step is the engine's; an engine turn is the engine's step; a
waiting host lets the engine step until STATE != RUN and then goes on. -/
def Obligations.TheScheduleChoosesWhoMoves : Prop :=
  ∀ (s : State) (rest : List HostMove),
    (s.agenda = [] → step s = engineStep s) ∧
    (s.agenda = .engine :: rest → step s = engineStep { s with agenda := rest }) ∧
    (s.agenda = .wait :: rest → s.runState = .run → step s = engineStep s) ∧
    (s.agenda = .wait :: rest → s.runState ≠ .run → step s = .next { s with agenda := rest })

/-! ### The four commands -/

/-- R161: NOP is the all-zero word and changes nothing in any STATE. -/
def Obligations.NopChangesNothing : Prop :=
  encode .nop = 0x00000000#32 ∧ ∀ s : State, exec .nop s = .next s

/-- R162: UNPK in IDLE or DONE writes NLIM, SHORT, LONG, I, CNT and STATE as the rule computes them
and leaves every other register, both memories and the host's moves as they were. -/
def Obligations.UnpkStartsARun : Prop :=
  ∀ s : State, s.cfg.wellFormed = true → s.Ready →
    ∃ t, exec .unpk s = .next t ∧
      t.runState = .run ∧ t.cellIdx = 0 ∧ t.cnt = 0 ∧
      t.nlim.toNat = min (s.cfg.width * s.cfg.height) (8 * s.pgLen.toNat) ∧
      (t.short = true ↔ 8 * s.pgLen.toNat < s.cfg.width * s.cfg.height) ∧
      (t.long = true ↔ s.cfg.width * s.cfg.height < 8 * s.pgLen.toNat) ∧
      t.result = s.result ∧ t.pgLen = s.pgLen ∧ t.cause = s.cause ∧ t.finfo = s.finfo ∧
      t.cfg = s.cfg ∧ t.pg = s.pg ∧ t.rb = s.rb ∧ t.agenda = s.agenda ∧ t.reads = s.reads

/-- R193: UNPK while BUSY raises BusyFault with FINFO = 0x10000000; the run stops where it is and
the engine has no further step; in IDLE and DONE no fault is raised. -/
def Obligations.UnpkWhileBusyRaisesBusyFault : Prop :=
  (∀ s : State, s.runState = .run →
    exec .unpk s =
      .next { s with cause := 3, finfo := 0x10000000#32, runState := .fault } ∧
    engineStep { s with cause := 3, finfo := 0x10000000#32, runState := .fault } =
      .next { s with cause := 3, finfo := 0x10000000#32, runState := .fault }) ∧
  (∀ s t : State, s.Ready → exec .unpk s = .next t →
    t.cause = s.cause ∧ t.finfo = s.finfo ∧ t.runState = .run)

/-- R124: BTST b, k. Its word is `0x20000000 | (k << 8) | b`, and with a must-be-zero bit set the word
raises IllegalCommand instead; for k <= 7 it writes `(b >> k) & 1` to RESULT and nothing else; for k > 7 it raises
RangeFault with its word and leaves RESULT; in FAULT it is ignored. -/
def Obligations.BtstWritesTheTestedBit : Prop :=
  (∀ (s : State) (w : Word) (rest : List HostMove), s.agenda = .csrWrite 0 w :: rest →
    w.extractLsb' 28 4 = 2#4 → w.extractLsb' 16 12 ≠ 0#12 → s.runState ≠ .fault →
    step s = .next { s with agenda := rest, cause := 1, finfo := w, runState := .fault }) ∧
  ∀ (s : State) (b k : Byte),
    encode (.btst b k) = 0x20000000#32 ||| (k.setWidth 32 <<< 8) ||| b.setWidth 32 ∧
    (s.runState = .fault → exec (.btst b k) s = .next s) ∧
    (s.runState ≠ .fault → k.toNat ≤ 7 →
      exec (.btst b k) s = .next { s with result := decide ((b.toNat >>> k.toNat) % 2 = 1) }) ∧
    (s.runState ≠ .fault → 7 < k.toNat →
      exec (.btst b k) s =
        .next { s with
          cause := 2
          finfo := 0x20000000#32 ||| (k.setWidth 32 <<< 8) ||| b.setWidth 32
          runState := .fault })

/-- R165: ABRT is the word 0x30000000 and any other word of its opcode raises IllegalCommand; it takes RUN and DONE
to IDLE and writes nothing else, after which the engine has no step; in IDLE and in FAULT it changes
nothing. -/
def Obligations.AbrtReturnsToIdle : Prop :=
  encode .abrt = 0x30000000#32 ∧
  (∀ (s : State) (w : Word) (rest : List HostMove), s.agenda = .csrWrite 0 w :: rest →
    w.extractLsb' 28 4 = 3#4 → w.extractLsb' 0 28 ≠ 0#28 → s.runState ≠ .fault →
    step s = .next { s with agenda := rest, cause := 1, finfo := w, runState := .fault }) ∧
  ∀ s : State,
    (s.runState = .run ∨ s.runState = .done →
      exec .abrt s = .next { s with runState := .idle } ∧
      engineStep { s with runState := .idle } = .next { s with runState := .idle }) ∧
    (s.runState = .idle ∨ s.runState = .fault → exec .abrt s = .next s)

/-! ### FAULT -/

/-- R196: in FAULT every command, every CSR write and every engine turn changes nothing. -/
def Obligations.FaultStateIgnoresEveryWrite : Prop :=
  ∀ s : State, s.runState = .fault →
    (∀ i, exec i s = .next s) ∧ (∀ n v, csrWrite n v s = .next s) ∧ engineStep s = .next s

/-- R196, R198: only reset leaves FAULT; until then CAUSE and FINFO describe the one fault, and I,
CNT, NLIM, PG_LEN, SHORT, LONG and RESULT keep their values. -/
def Obligations.OnlyResetLeavesFault : Prop :=
  ∀ s t : State, s.runState = .fault → s.agenda.head? ≠ some .reset → step s = .next t →
    t.runState = .fault ∧ t.cause = s.cause ∧ t.finfo = s.finfo ∧ t.cellIdx = s.cellIdx ∧
    t.cnt = s.cnt ∧ t.nlim = s.nlim ∧ t.pgLen = s.pgLen ∧ t.short = s.short ∧
    t.long = s.long ∧ t.result = s.result

/-- R160: the state diagram. A step that changes STATE follows one of its arrows, on the move that
arrow names. -/
def Obligations.RunStateFollowsTheDiagram : Prop :=
  ∀ s t : State, step s = .next t → t.runState ≠ s.runState →
    (t.runState = .run ∧ s.Ready ∧
      ∃ w, s.agenda.head? = some (.csrWrite 0 w) ∧ decode w = .command .unpk) ∨
    (t.runState = .done ∧ s.runState = .run ∧ s.cellIdx = s.nlim) ∨
    (t.runState = .idle ∧ (s.runState = .run ∨ s.runState = .done) ∧
      ∃ w, s.agenda.head? = some (.csrWrite 0 w) ∧ decode w = .command .abrt) ∨
    (t.runState = .fault ∧ t.cause ≠ 0) ∨
    (t.runState = .idle ∧ s.agenda.head? = some .reset)

/-! ### BIX and RPW -/

/-- R125: the four laws of the bit test on its domain. -/
def Obligations.BitTestLaws : Prop :=
  ∀ b : Byte,
    (∀ k < 8, (testBit b k).toNat = (b.toNat >>> k) &&& 1) ∧
    (∀ k < 8, (b.toNat &&& (1 <<< k) ≠ 0 ↔ (b.toNat >>> k) &&& 1 = 1)) ∧
    b.toNat = ((List.range 8).map fun k => (testBit b k).toNat * 2 ^ k).sum ∧
    (List.range 8).countP (fun k => b.getLsbD k) =
      ((List.range 8).map fun k => (testBit b k).toNat).sum

/-- R120: SPLIT is the quotient and remainder by 8, which are the high bits and the low three bits,
and the index is recombined from them. -/
def Obligations.SplitRecombinesToTheIndex : Prop :=
  ∀ i : Nat, splitByte i = i >>> 3 ∧ splitBit i = i &&& 7 ∧
    i = 8 * splitByte i + splitBit i ∧ splitBit i ≤ 7

/-- R143: cells and pixel coordinates correspond one to one, and the pixel at (x, y) is at RB offset
`4*(y*W + x)`. -/
def Obligations.CellsAndCoordinatesCorrespond : Prop :=
  ∀ c : Config, c.wellFormed = true →
    (∀ i < c.ncells, column c i < c.width ∧ row c i < c.height ∧
      cellAt c (column c i) (row c i) = i) ∧
    (∀ x y, x < c.width → y < c.height →
      cellAt c x y < c.ncells ∧ column c (cellAt c x y) = x ∧ row c (cellAt c x y) = y ∧
      pixelOffset (cellAt c x y) = 4 * (y * c.width + x))

/-! ### The engine -/

/-- R163, R93, R144: in RUN with I < NLIM, with the launch premises, the engine writes R, G, B, A of
cell I as its bit says, adds the bit to CNT, advances I, and changes no other byte and no other
register. -/
def Obligations.CellStepPaintsOneCell : Prop :=
  ∀ s : State, s.Inv → s.runState = .run → s.cellIdx.toNat < s.nlim.toNat →
    s.LenHonest → s.RasterProvided → s.unwritten = true →
    ∃ t, engineStep s = .next t ∧
      (∀ bit : Nat,
        bit = ((s.pgByte (s.cellIdx.toNat / 8)).toNat >>> (s.cellIdx.toNat % 8)) % 2 →
        t.rb.rbByte (4 * s.cellIdx.toNat) = 255#8 ∧
        t.rb.rbByte (4 * s.cellIdx.toNat + 1) = (if bit = 1 then 0#8 else 255#8) ∧
        t.rb.rbByte (4 * s.cellIdx.toNat + 2) = (if bit = 1 then 0#8 else 255#8) ∧
        t.rb.rbByte (4 * s.cellIdx.toNat + 3) = 255#8 ∧
        t.cnt.toNat = s.cnt.toNat + bit) ∧
      (∀ o, o < 4 * s.cellIdx.toNat ∨ 4 * s.cellIdx.toNat + 4 ≤ o →
        t.rb.rbByte o = s.rb.rbByte o) ∧
      t.cellIdx.toNat = s.cellIdx.toNat + 1 ∧
      t.runState = s.runState ∧ t.nlim = s.nlim ∧ t.pgLen = s.pgLen ∧ t.short = s.short ∧
      t.long = s.long ∧ t.result = s.result ∧ t.cause = s.cause ∧ t.finfo = s.finfo ∧
      t.cfg = s.cfg ∧ t.pg = s.pg ∧ t.rb.size = s.rb.size ∧ t.agenda = s.agenda ∧
      t.reads = s.reads

/-- R164: in RUN with I = NLIM the completion step sets STATE to DONE and nothing else; the engine
reaches DONE in no other way; and in RUN exactly one of the cell step's and the completion step's
conditions holds. -/
def Obligations.CompletionStepSetsDone : Prop :=
  (∀ s : State, s.runState = .run → s.cellIdx = s.nlim →
    engineStep s = .next { s with runState := .done }) ∧
  (∀ s t : State, s.runState = .run → engineStep s = .next t → t.runState = .done →
    s.cellIdx = s.nlim) ∧
  (∀ s : State, s.Inv → s.runState = .run →
    (s.cellIdx < s.nlim ∧ s.cellIdx ≠ s.nlim) ∨ (¬ s.cellIdx < s.nlim ∧ s.cellIdx = s.nlim))

/-- R164, R231: while STATE = RUN the engine always has a step: the run completes at I = NLIM, or
NLIM - I falls by one. This holds whether or not the host kept off the buffers. -/
def Obligations.RunningEngineAlwaysAdvances : Prop :=
  ∀ s : State, s.Inv → s.runState = .run → s.LenHonest → s.RasterProvided →
    ∃ t, engineStep s = .next t ∧
      ((s.cellIdx = s.nlim ∧ t.runState = .done ∧ t.cellIdx = s.cellIdx) ∨
       (t.runState = .run ∧ t.nlim = s.nlim ∧
        (t.nlim.toNat - t.cellIdx.toNat) + 1 = s.nlim.toNat - s.cellIdx.toNat))

/-- R194, R195: a cell step outside the bounds makes no access and raises BoundsFault with FINFO = I.
(Only in states that no run reaches: `NoStepRaisesBoundsFault`.) -/
def Obligations.OutOfBoundsCellStepFaults : Prop :=
  ∀ s : State, s.runState = .run → s.cellIdx < s.nlim →
    (s.pgLen.toNat ≤ s.cellIdx.toNat / 8 ∨
      (s.cellIdx.toNat / 8 < s.pg.size ∧
        4 * (s.cfg.width * s.cfg.height) ≤ 4 * s.cellIdx.toNat + 3)) →
    engineStep s = .next { s with cause := 4, finfo := s.cellIdx, runState := .fault }

/-- R72, R194: from a state that meets the invariants, no step raises BoundsFault. -/
def Obligations.NoStepRaisesBoundsFault : Prop :=
  ∀ s t : State, s.Inv → s.cause ≠ 4 → step s = .next t → t.cause ≠ 4

/-- R22: I changes only to 0, by an accepted UNPK or by reset, or to I + 1, by a cell step; the
addition does not wrap. -/
def Obligations.IndexIsOnlyClearedOrAdvanced : Prop :=
  ∀ s t : State, step s = .next t → t.cellIdx ≠ s.cellIdx →
    (t.cellIdx = 0 ∧ (s.agenda.head? = some .reset ∨
      ∃ w, s.agenda.head? = some (.csrWrite 0 w) ∧ decode w = .command .unpk)) ∨
    (s.runState = .run ∧ s.cellIdx.toNat < s.nlim.toNat ∧
      t.cellIdx.toNat = s.cellIdx.toNat + 1)

/-! ### Invariants -/

/-- R46, R47: the machine after reset meets every invariant. -/
def Obligations.InvariantHoldsAtReset : Prop := State.reset.Inv

/-- R47 items 1 to 6, R28, R29: every step keeps the invariants, whatever the host does. -/
def Obligations.EveryStepKeepsTheInvariant : Prop :=
  ∀ s t : State, s.Inv → step s = .next t → t.Inv

/-- R47 item 7: an accepted UNPK makes `NLIM = W*H` hold iff SHORT = 0, and every step but a reset
keeps that. -/
def Obligations.LimitEqualsBoardIffNotShort : Prop :=
  (∀ s t : State, s.cfg.wellFormed = true → s.Ready → exec .unpk s = .next t →
    t.LimitMatchesShort) ∧
  (∀ s t : State, s.cfg.wellFormed = true → s.LimitMatchesShort →
    s.agenda.head? ≠ some .reset → step s = .next t → t.LimitMatchesShort)

/-- R169: an accepted UNPK establishes the loop invariant, and every step of an undisturbed run keeps
it. -/
def Obligations.LoopInvariantIsKept : Prop :=
  (∀ s t : State, s.Ready → exec .unpk s = .next t → t.LoopInv) ∧
  (∀ s t : State, s.Inv → s.RunOnTrack → step s = .next t → t.RunOnTrack)

/-- R169: the loop invariant also holds just after the run has ended, by completion, abort or fault
(a reset loses I). -/
def Obligations.EndedRunKeepsTheLoopInvariant : Prop :=
  ∀ s t : State, s.runState = .run → s.unwritten = true → s.LoopInv →
    s.agenda.head? ≠ some .reset → step s = .next t → t.runState ≠ .run → t.LoopInv

/-! ### Runs -/

/-- R168: what a completed run achieves. From IDLE or DONE, with the launch premises of R229 and no
host move waiting, UNPK and N + 1 engine steps with N = min(W*H, 8*L) end in DONE with every cell
below N painted as its bit says, every other raster byte as it was, SETCOUNT the number of set cells
below N, CELLIDX = NLIM = N, the two flags, and the PackedGrid as it was. -/
def Obligations.CompletedRunPaintsEveryCell : Prop :=
  ∀ s : State, s.Inv → s.Ready → s.agenda = [] → s.LenHonest → s.RasterProvided →
    ∃ t u, exec .unpk s = .next t ∧
      t.runFor (min (s.cfg.width * s.cfg.height) (8 * s.pgLen.toNat) + 1) = .next u ∧
      u.runState = .done ∧
      u.nlim.toNat = min (s.cfg.width * s.cfg.height) (8 * s.pgLen.toNat) ∧
      u.cellIdx = u.nlim ∧
      (∀ i < u.nlim.toNat, ∀ bit : Nat,
        bit = ((s.pgByte (i / 8)).toNat >>> (i % 8)) % 2 →
        u.rb.rbByte (4 * i) = 255#8 ∧
        u.rb.rbByte (4 * i + 1) = (if bit = 1 then 0#8 else 255#8) ∧
        u.rb.rbByte (4 * i + 2) = (if bit = 1 then 0#8 else 255#8) ∧
        u.rb.rbByte (4 * i + 3) = 255#8) ∧
      (∀ o, 4 * u.nlim.toNat ≤ o → u.rb.rbByte o = s.rb.rbByte o) ∧
      u.cnt.toNat = (List.range u.nlim.toNat).countP
        (fun i => decide (((s.pgByte (i / 8)).toNat >>> (i % 8)) % 2 = 1)) ∧
      (u.short = true ↔ 8 * s.pgLen.toNat < s.cfg.width * s.cfg.height) ∧
      (u.long = true ↔ s.cfg.width * s.cfg.height < 8 * s.pgLen.toNat) ∧
      u.pg = s.pg ∧ u.pgLen = s.pgLen ∧ u.result = s.result ∧ u.cause = s.cause ∧
      u.finfo = s.finfo ∧ u.reads = s.reads

/-- R168 over every interleaving (R171), with the premises of R229 that it needs by their names. The host
may read CSRs, write PG_LEN, and issue NOP and BTST during the run. If the run's first state with
STATE != RUN is u, then STATE is DONE there, every cell below N = min(W*H, 8*L) is painted as its bit in
the PackedGrid of L bytes says, every other raster byte is as it was, SETCOUNT is the number of set cells
below N, CELLIDX = NLIM = N, the flags are the two comparisons, and PG is unchanged. -/
def Obligations.CompletedRunUnderEverySchedule : Prop :=
  ∀ (s t u : State) (grid : List Byte) (k : Nat), s.Inv → s.Ready → s.LenSet grid →
    s.HoldsGrid grid → exec .unpk s = .next t → t.BuffersOwned → t.NoInterference →
    (∀ j < k, ∀ v, t.runFor j = .next v → v.runState = .run) →
    t.runFor k = .next u → u.runState ≠ .run →
    u.runState = .done ∧
    u.nlim.toNat = min (s.cfg.width * s.cfg.height) (8 * grid.length) ∧
    u.cellIdx = u.nlim ∧
    (∀ i < u.nlim.toNat, ∀ bit : Nat,
      bit = ((grid.getD (i / 8) 0).toNat >>> (i % 8)) % 2 →
      u.rb.rbByte (4 * i) = 255#8 ∧
      u.rb.rbByte (4 * i + 1) = (if bit = 1 then 0#8 else 255#8) ∧
      u.rb.rbByte (4 * i + 2) = (if bit = 1 then 0#8 else 255#8) ∧
      u.rb.rbByte (4 * i + 3) = 255#8) ∧
    (∀ o, 4 * u.nlim.toNat ≤ o → u.rb.rbByte o = s.rb.rbByte o) ∧
    u.cnt.toNat = (List.range u.nlim.toNat).countP
      (fun i => decide (((grid.getD (i / 8) 0).toNat >>> (i % 8)) % 2 = 1)) ∧
    (u.short = true ↔ 8 * grid.length < s.cfg.width * s.cfg.height) ∧
    (u.long = true ↔ s.cfg.width * s.cfg.height < 8 * grid.length) ∧
    u.pg = s.pg ∧ u.pgLen = s.pgLen ∧ u.cause = s.cause ∧ u.finfo = s.finfo ∧ u.cfg = s.cfg

/-- R231, R229 (Fair): every schedule of the model is fair (the schedule is the model's, log 8). -/
def Obligations.EveryScheduleIsFair : Prop := ∀ s : State, s.Fair

/-- R231: a run that starts with I = n ends after at most NLIM - n + 1 engine steps and the host's waiting
moves, with real memory behind both ports; or the model stops before, at an access of the host to PG or
RB (the schedule and those stops are the model's, logs 4, 8 to 10). -/
def Obligations.EveryRunEnds : Prop :=
  ∀ s : State, s.Inv → s.runState = .run → s.LenHonest → s.RasterProvided →
    ∃ k ≤ s.agenda.length + (s.nlim.toNat - s.cellIdx.toNat) + 1, ∃ u, s.runFor k = .next u ∧
      (u.runState ≠ .run ∨
        ((∃ m, u.agenda.head? = some m ∧ m.isMemoryAccess = true) ∧ ∀ t, step u ≠ .next t))

/-- R70: a run is idempotent. With N = min(W*H, 8*L), UNPK and N + 1 engine steps on the unchanged
PackedGrid and PG_LEN end a second time in the very same registers and the very same raster. -/
def Obligations.SecondRunChangesNothing : Prop :=
  ∀ s t u : State, s.Inv → s.Ready → s.agenda = [] → s.LenHonest → s.RasterProvided →
    exec .unpk s = .next t →
    t.runFor (min (s.cfg.width * s.cfg.height) (8 * s.pgLen.toNat) + 1) = .next u →
    ∃ t', exec .unpk u = .next t' ∧
      t'.runFor (min (s.cfg.width * s.cfg.height) (8 * s.pgLen.toNat) + 1) =
        .next { u with rbOld := u.rb }

/-! ### Reset -/

/-- R220, R46: reset, in any state, sets the ten registers to their reset values and touches nothing
else; after it every CSR reads 0 but WIDTH, HEIGHT, LUT0 and LUT1, which read what they read before. -/
def Obligations.ResetClearsTheRegisters : Prop :=
  ∀ (s : State) (rest : List HostMove), s.agenda = .reset :: rest →
    ∃ t, step s = .next t ∧
      t = { s with
        agenda := rest, runState := .idle, cellIdx := 0, cnt := 0, nlim := 0, pgLen := 0,
        short := false, long := false, result := false, cause := 0, finfo := 0 } ∧
      (∀ n ∈ [0x3#4, 0x4#4, 0xB#4, 0xC#4], csrValue t n = csrValue s n) ∧
      ∀ n : BitVec 4, csrValue t n =
        (if n = 0x3 then BitVec.ofNat 32 s.cfg.width
         else if n = 0x4 then BitVec.ofNat 32 s.cfg.height
         else if n = 0xB then 0xFFFFFFFF#32
         else if n = 0xC then 0xFF0000FF#32
         else 0)

/-! ### CSR access -/

/-- R166: a CSR read returns the register's value at that instant and changes nothing. -/
def Obligations.CsrReadHasNoSideEffect : Prop :=
  ∀ (s : State) (n : BitVec 4) (rest : List HostMove), s.agenda = .csrRead n :: rest →
    step s = .next { s with agenda := rest, reads := .csr (csrValue s n) :: s.reads }

/-- R32, R33, R36 to R44: what each CSR word holds (STATUS: `StatusBitsShowTheState`). -/
def Obligations.CsrWordsHoldTheirRegisters : Prop :=
  ∀ s : State, s.cfg.wellFormed = true →
    csrValue s 0x0 = 0 ∧ csrValue s 0x2 = s.pgLen ∧
    (csrValue s 0x3).toNat = s.cfg.width ∧ (csrValue s 0x4).toNat = s.cfg.height ∧
    csrValue s 0x5 = s.cnt ∧ csrValue s 0x6 = s.cellIdx ∧ csrValue s 0x7 = s.nlim ∧
    (csrValue s 0x8).toNat = s.result.toNat ∧ (csrValue s 0x9).toNat = s.cause.toNat ∧
    csrValue s 0xA = s.finfo ∧ csrValue s 0xB = 0xFFFFFFFF#32 ∧
    csrValue s 0xC = 0xFF0000FF#32 ∧
    csrValue s 0xD = 0 ∧ csrValue s 0xE = 0 ∧ csrValue s 0xF = 0

/-- R34: the bits of STATUS, its legal values in every state that meets the invariants, and that a
write to it is ignored. -/
def Obligations.StatusBitsShowTheState : Prop :=
  ∀ s : State,
    ((csrValue s 0x1).getLsbD 0 = decide (s.runState = .run) ∧
     (csrValue s 0x1).getLsbD 1 = decide (s.runState = .done) ∧
     (csrValue s 0x1).getLsbD 2 = decide (s.runState = .fault) ∧
     (csrValue s 0x1).getLsbD 3 = s.short ∧ (csrValue s 0x1).getLsbD 4 = s.long ∧
     ∀ n, 5 ≤ n → (csrValue s 0x1).getLsbD n = false) ∧
    (s.Inv → ∃ r ∈ [0x00#32, 0x01#32, 0x02#32, 0x04#32], ∃ f ∈ [0x00#32, 0x08#32, 0x10#32],
      csrValue s 0x1 = r + f) ∧
    (∀ v, csrWrite 0x1 v s = .next s)

/-- R35: PG_LEN reads back, is written in IDLE and DONE, and keeps its value in RUN and FAULT. -/
def Obligations.PgLenIsWrittenOnlyOutsideRuns : Prop :=
  ∀ (s : State) (v : Word) (rest : List HostMove),
    csrValue s 0x2 = s.pgLen ∧
    (s.agenda = .csrWrite 0x2 v :: rest →
      (s.runState = .idle ∨ s.runState = .done →
        step s = .next { s with agenda := rest, pgLen := v }) ∧
      (s.runState = .run ∨ s.runState = .fault → step s = .next { s with agenda := rest }))

/-- R167: a CSR write to any word but CMD and PG_LEN does nothing. -/
def Obligations.OtherCsrWritesAreIgnored : Prop :=
  ∀ (s : State) (n : BitVec 4) (v : Word) (rest : List HostMove),
    s.agenda = .csrWrite n v :: rest → n ≠ 0x0 → n ≠ 0x2 →
    step s = .next { s with agenda := rest }

/-! ### Memory -/

/-- R60, R145: no step but a host write or a new buffer changes the PackedGrid. -/
def Obligations.OnlyTheHostChangesThePackedGrid : Prop :=
  ∀ s t : State, step s = .next t → (∀ m, s.agenda.head? = some m → m.mayChangePg = false) →
    t.pg = s.pg

/-- R72, R78, R145: but for the host's own accesses, a step changes no raster byte outside the
quadruple of cell I in a run with I < NLIM; so no byte at or above 4*NLIM ever changes. -/
def Obligations.EngineWritesOnlyTheCurrentPixel : Prop :=
  ∀ s t : State, step s = .next t → (∀ m, s.agenda.head? = some m → m.mayChangeRb = false) →
    t.rb.size = s.rb.size ∧
    (∀ o, (s.runState = .run → s.cellIdx.toNat < s.nlim.toNat →
        o < 4 * s.cellIdx.toNat ∨ 4 * s.cellIdx.toNat + 4 ≤ o) →
      t.rb.rbByte o = s.rb.rbByte o) ∧
    (∀ o, 4 * s.nlim.toNat ≤ o → t.rb.rbByte o = s.rb.rbByte o)

/-- R66: a 32-bit read of a painted pixel, outside a run, returns LUT[bit]: little-endian, and big-endian
as well, because both colours are byte palindromes. -/
def Obligations.PixelReadReturnsItsLutWord : Prop :=
  ∀ (s : State) (e : ByteOrder) (i : Nat) (rest : List HostMove), s.Inv → s.LoopInv → s.runState ≠ .run →
    s.RasterProvided → i < s.cellIdx.toNat → s.agenda = .rbReadPixel e i :: rest →
    step s = .next { s with
      agenda := rest
      reads := .pixel (if ((s.pgByte (i / 8)).toNat >>> (i % 8)) % 2 = 1 then 0xFF0000FF#32
        else 0xFFFFFFFF#32) :: s.reads }

/-- R66: outside a run, whatever the raster holds, a byte read returns the byte, a little-endian 32-bit
read has the byte at offset 4*i + n in bits[8*n+7:8*n], and a big-endian one the bytes the other way
round. -/
def Obligations.RasterReadsFollowTheByteOrder : Prop :=
  ∀ (s : State) (rest : List HostMove), s.runState ≠ .run → s.RasterProvided →
    (∀ o < s.cfg.rbytes, s.agenda = .rbRead o :: rest →
      step s = .next { s with agenda := rest, reads := .byte (s.rb.rbByte o) :: s.reads }) ∧
    (∀ (e : ByteOrder) (i : Nat), i < s.cfg.ncells → s.agenda = .rbReadPixel e i :: rest →
      ∃ w : Word, step s = .next { s with agenda := rest, reads := .pixel w :: s.reads } ∧
        ∀ n < 4, w.extractLsb' (8 * n) 8 =
          (match e with
           | .little => s.rb.rbByte (4 * i + n)
           | .big => s.rb.rbByte (4 * i + (3 - n))))

/-- R61, R103: a PackedGrid placed outside a run is there byte for byte, and nothing else changes. -/
def Obligations.PlacedGridReadsBack : Prop :=
  ∀ (s : State) (bytes : List Byte) (rest : List HostMove),
    s.agenda = .pgPlace bytes :: rest → s.runState ≠ .run → bytes.length ≤ 2 ^ 32 →
    ∃ t, step s = .next t ∧ t.pg.size = bytes.length ∧
      (∀ (a : Nat) (h : a < bytes.length), t.pgByte a = bytes[a]) ∧
      t = { s with agenda := rest, pg := t.pg }

/-- R70: PG is plain memory: a byte written outside a run reads back, and no other byte changes. -/
def Obligations.PgWriteReadsBack : Prop :=
  ∀ (s : State) (o : Nat) (v : Byte) (rest : List HostMove),
    s.agenda = .pgWrite o v :: rest → s.runState ≠ .run → o < 2 ^ 32 → o < s.pg.size →
    ∃ t, step s = .next t ∧ t.pgByte o = v ∧ (∀ a, a ≠ o → t.pgByte a = s.pgByte a) ∧
      t = { s with agenda := rest, pg := t.pg }

/-! ### What the spec leaves open -/

/-- HZ1, U4 (the model's choice of "any value", log entry 5): in the state right after the host has
written a PG byte while BUSY, a FETCH of that byte gives a free value; no register of the block changes.
(That the offset stays noted until the next accepted UNPK is `OwnershipIsLostByTouchingTheBuffers`.) -/
def Obligations.PgWriteWhileBusyFreesTheFetch : Prop :=
  ∀ (s : State) (o : Nat) (v : Byte) (rest : List HostMove),
    s.agenda = .pgWrite o v :: rest → s.runState = .run → o < 2 ^ 32 → o < s.pg.size →
    ∃ t, step s = .next t ∧ t.fetch o = Config.freeByte t.free ∧ t.owned = false ∧
      t = { s with agenda := rest, pg := t.pg, pgTouched := o :: s.pgTouched }

/-- HZ2, U4 (the model's choice of "old or new", log entry 6): a host read of a pixel while BUSY
returns the whole pixel as it is or the whole pixel as it was before the run. -/
def Obligations.RasterReadWhileBusyIsOldOrNew : Prop :=
  ∀ (s : State) (e : ByteOrder) (i : Nat) (rest : List HostMove),
    s.agenda = .rbReadPixel e i :: rest → s.runState = .run →
    4 * i + 3 < s.cfg.rbytes → 4 * i + 3 < s.rb.size →
    ∃ v, (v = s.rb.rbPixel e i ∨ v = s.rbOld.rbPixel e i) ∧
      step s = .next { s with
        agenda := rest, reads := .pixel v :: s.reads, free := s.free + 1, rbPeeked := true }

/-- HZ2, U4 (the model's choice, log entry 6): over a byte the host wrote during the run, the engine's
store writes its own byte or leaves the host's; every byte the host did not write gets the engine's. -/
def Obligations.ContendedStoreOverwritesOrYields : Prop :=
  ∀ s t : State, s.Inv → s.runState = .run → s.cellIdx.toNat < s.nlim.toNat →
    engineStep s = .next t → ∀ n < 4,
    t.rb.rbByte (4 * s.cellIdx.toNat + n) = laneByte (lut (s.fetchedBit s.cellIdx.toNat)) n ∨
    (4 * s.cellIdx.toNat + n ∈ s.rbTouched ∧
      t.rb.rbByte (4 * s.cellIdx.toNat + n) = s.rb.rbByte (4 * s.cellIdx.toNat + n))

/-- R229 (BuffersOwned), R77, HZ1, HZ2: an accepted UNPK gives both buffers to the block; during a run
they stay its own over every move but a host write of PG or access to RB, and are lost at such a move;
what the host did is then noted until the next accepted UNPK (the notes are the model's, log 11). -/
def Obligations.OwnershipIsLostByTouchingTheBuffers : Prop :=
  (∀ s t : State, s.Ready → exec .unpk s = .next t → t.owned = true) ∧
  (∀ s t : State, s.runState = .run → step s = .next t →
    (∀ m, s.agenda.head? = some m → m.touchesBuffers = false) → t.owned = s.owned) ∧
  (∀ s t : State, s.runState = .run → step s = .next t →
    (∃ m, s.agenda.head? = some m ∧ m.touchesBuffers = true) → t.owned = false) ∧
  (∀ s t : State, step s = .next t →
    ((∀ o ∈ s.pgTouched, o ∈ t.pgTouched) ∧ (∀ o ∈ s.rbTouched, o ∈ t.rbTouched) ∧
      (s.rbPeeked = true → t.rbPeeked = true)) ∨
    (s.Ready ∧ ∃ w, s.agenda.head? = some (.csrWrite 0 w) ∧ decode w = .command .unpk))

/-- HZ3, HZ4, U5: a cell step inside the declared bounds but beyond the memory really there is
refused (log entry 4). -/
def Obligations.UnbackedAccessIsRefused : Prop :=
  ∀ s : State, s.runState = .run → s.cellIdx < s.nlim →
    s.cellIdx.toNat / 8 < s.pgLen.toNat →
    (s.pg.size ≤ s.cellIdx.toNat / 8 → engineStep s = .refused .pgNotBacked) ∧
    (s.cellIdx.toNat / 8 < s.pg.size → 4 * s.cellIdx.toNat + 3 < s.cfg.rbytes →
      s.rb.size ≤ 4 * s.cellIdx.toNat + 3 → engineStep s = .refused .rbNotBacked)

/-! ### Independence -/

/-- R6, R143: W and H enter the block's behaviour only as the product W*H. With another shape of the
same size every step but a read of WIDTH or HEIGHT goes the same way. -/
def Obligations.BoardShapeEntersOnlyAsProduct : Prop :=
  ∀ (s : State) (c : Config), c.ncells = s.cfg.ncells →
    s.agenda.head? ≠ some (.csrRead 0x3) → s.agenda.head? ≠ some (.csrRead 0x4) →
    step (s.reshape c) = onNext (fun t => t.reshape c) (step s)

/-- R23, R26: no operation's behaviour depends on SHORT, LONG, RESULT or CNT. Two states that differ
only there step to states that differ only there, whatever the move but a CSR read. -/
def Obligations.FlagsAndCountNeverSteer : Prop :=
  ∀ s s' : State, s.hideFlags = s'.hideFlags →
    (∀ m, s.agenda.head? = some m → m.isCsrRead = false) →
    onNext State.hideFlags (step s) = onNext State.hideFlags (step s')

/-- R48, R145: the block never reads RB. Two states that differ only in the bytes of the raster step
to states that differ only there, whatever the move but a host read of the raster. -/
def Obligations.RasterContentNeverSteers : Prop :=
  ∀ s s' : State, s.hideRaster = s'.hideRaster →
    (∀ m, s.agenda.head? = some m → m.isRbRead = false) →
    onNext State.hideRaster (step s) = onNext State.hideRaster (step s')
end

