-- ==== Sys2Proof/Laws/Decode.lean ====
section
/-! SUPPORT. The fields of a command word put together from its fields. -/

namespace Sys2Proof

variable (op : BitVec 4) (k b : Byte)

theorem formatC_getLsbD (i : Nat) :
    (formatC op k b).getLsbD i =
      if i < 8 then b.getLsbD i else if i < 16 then k.getLsbD (i - 8)
      else if i < 28 then false else op.getLsbD (i - 28) := by
  simp only [formatC, BitVec.getLsbD_append]
  by_cases h0 : i < 8
  · have : i < 12 + (8 + 8) := by omega
    have : i < 8 + 8 := by omega
    simp [*]
  · by_cases h1 : i < 16
    · have a : i < 12 + (8 + 8) := by omega
      have b : i < 8 + 8 := by omega
      simp [*]
    · by_cases h2 : i < 28
      · have a : i < 12 + (8 + 8) := by omega
        have b : ¬ i < 8 + 8 := by omega
        simp [*]
      · have a : ¬ i < 12 + (8 + 8) := by omega
        simp [*]

@[simp] theorem opField_formatC : opField (formatC op k b) = op := by
  apply BitVec.eq_of_getLsbD_eq
  intro i hi
  have h0 : ¬ 28 + i < 8 := by omega
  have h1 : ¬ 28 + i < 16 := by omega
  simp [opField, formatC_getLsbD, hi, h0, h1]

@[simp] theorem zeroField_formatC : zeroField (formatC op k b) = 0#12 := by
  apply BitVec.eq_of_getLsbD_eq
  intro i hi
  have h0 : ¬ 16 + i < 8 := by omega
  have h1 : 16 + i < 28 := by omega
  simp [zeroField, BitVec.getLsbD_extractLsb', formatC_getLsbD, h0, h1]

@[simp] theorem kField_formatC : kField (formatC op k b) = k := by
  apply BitVec.eq_of_getLsbD_eq
  intro i hi
  have h1 : 8 + i < 16 := by omega
  simp [kField, formatC_getLsbD, h1, hi]

@[simp] theorem bField_formatC : bField (formatC op k b) = b := by
  apply BitVec.eq_of_getLsbD_eq
  intro i hi
  simp [bField, formatC_getLsbD, hi]

/-! ### Masks of the opcode map -/

/-- A full mask keeps the word. -/
theorem and_full_mask (w : Word) : w &&& 0xFFFFFFFF#32 = w := by
  apply BitVec.eq_of_getLsbD_eq
  intro i hi
  have h1 : ∀ j < 32, (0xFFFFFFFF#32).getLsbD j = true := by decide
  rw [BitVec.getLsbD_and, h1 i hi, Bool.and_true]

/-- BTST's mask keeps the upper half. -/
theorem and_high_mask (w : Word) (i : Nat) :
    (w &&& 0xFFFF0000#32).getLsbD i = (w.getLsbD i && decide (16 ≤ i)) := by
  by_cases hi : i < 32
  · have h1 : ∀ j < 32, (0xFFFF0000#32).getLsbD j = decide (16 ≤ j) := by decide
    rw [BitVec.getLsbD_and, h1 i hi]
  · rw [BitVec.getLsbD_of_ge _ i (by omega), BitVec.getLsbD_of_ge w i (by omega)]
    rfl

/-- A word is put together from its fields exactly when its must-be-zero field is 0 (R95). -/
theorem formatC_fields (w : Word) :
    formatC (opField w) (kField w) (bField w) = w ↔ zeroField w = 0 := by
  constructor
  · intro h
    rw [← h]
    simp
  · intro h
    apply BitVec.eq_of_getLsbD_eq
    intro i hi
    have hz : ∀ j < 12, w.getLsbD (16 + j) = false := by
      intro j hj
      have := congrArg (fun x => x.getLsbD j) h
      simpa [zeroField, hj] using this
    rw [formatC_getLsbD]
    split
    · simp [bField, *]
    · split
      · have : i - 8 < 8 := by omega
        simp [kField, this, show 8 + (i - 8) = i by omega]
      · split
        · have := hz (i - 16) (by omega)
          rw [show 16 + (i - 16) = i by omega] at this
          simp [this]
        · have : i - 28 < 4 := by omega
          simp [opField, this, show 28 + (i - 28) = i by omega]

/-- BTST's row of the opcode map as a condition on fields (R97). -/
theorem btst_row_iff (w : Word) :
    w &&& 0xFFFF0000#32 = 0x20000000#32 ↔ opField w = 2 ∧ zeroField w = 0 := by
  have hp : ∀ j, (0x20000000#32).getLsbD j = decide (j = 29) := by
    intro j
    by_cases hj : j < 32
    · have : ∀ j < 32, (0x20000000#32).getLsbD j = decide (j = 29) := by decide
      exact this j hj
    · rw [BitVec.getLsbD_of_ge _ j (by omega)]
      simp
      omega
  have h2 : ∀ j < 4, (2#4).getLsbD j = decide (j = 1) := by decide
  constructor
  · intro h
    have hb : ∀ j, 16 ≤ j → w.getLsbD j = decide (j = 29) := by
      intro j hj
      have := congrArg (fun x => x.getLsbD j) h
      simpa only [and_high_mask, hj, decide_true, Bool.and_true, hp] using this
    constructor
    · apply BitVec.eq_of_getLsbD_eq
      intro i hi
      rw [show (2 : BitVec 4) = 2#4 from rfl, h2 i hi]
      simp [opField, hi, hb (28 + i) (by omega)]
      omega
    · apply BitVec.eq_of_getLsbD_eq
      intro i hi
      simp [zeroField, hi, hb (16 + i) (by omega)]
      omega
  · rintro ⟨ho, hz⟩
    rw [← (formatC_fields w).2 hz, ho]
    apply BitVec.eq_of_getLsbD_eq
    intro i hi
    rw [and_high_mask, formatC_getLsbD, hp]
    by_cases h0 : i < 16
    · have : ¬ 16 ≤ i := by omega
      have : i ≠ 29 := by omega
      simp [*]
    · have h8 : ¬ i < 8 := by omega
      have h16 : 16 ≤ i := by omega
      by_cases h1 : i < 28
      · have : i ≠ 29 := by omega
        simp [*]
      · simp [*, h2 (i - 28) (by omega)]
        omega

/-! ### The decoder, said once -/

/-- What the decoder answers for any word (R100): one of the four commands, whose encoding the word
then is, or ILLEGAL for a word that meets no row's constraint. -/
theorem decode_cases (w : Word) :
    (∃ i, w = encode i ∧ decode w = .command i) ∨
    (wellFormedWord w = false ∧
      decode w = .illegal (if opField w < 4#4 then .reservedBits else .reservedOpcode)) := by
  by_cases h0 : w = 0#32
  · subst h0
    exact .inl ⟨.nop, by decide, by decide⟩
  by_cases h1 : w = 0x10000000#32
  · subst h1
    exact .inl ⟨.unpk, by decide, by decide⟩
  by_cases h2 : w &&& 0xFFFF0000#32 = 0x20000000#32
  · obtain ⟨ho, hz⟩ := (btst_row_iff w).1 h2
    have h := (formatC_fields w).2 hz
    rw [ho] at h
    exact .inl ⟨.btst (bField w) (kField w), h.symm, by simp [decode, and_full_mask, h0, h1, h2]⟩
  by_cases h3 : w = 0x30000000#32
  · subst h3
    exact .inl ⟨.abrt, by decide, by decide⟩
  refine .inr ⟨?_, ?_⟩
  · cases hw : wellFormedWord w with
    | false => rfl
    | true =>
      exfalso
      simp only [wellFormedWord, Bool.and_eq_true, Bool.or_eq_true, decide_eq_true_eq] at hw
      obtain ⟨⟨ho, hz⟩, h⟩ := hw
      have hf := (formatC_fields w).2 hz
      rcases h with h | ⟨hk, hb⟩
      · exact h2 ((btst_row_iff w).2 ⟨h, hz⟩)
      · rw [hk, hb] at hf
        have four : ∀ o : BitVec 4, o < 4#4 → o = 0 ∨ o = 1 ∨ o = 2 ∨ o = 3 := by decide
        rcases four _ ho with h | h | h | h <;> rw [h] at hf
        · exact h0 (hf ▸ by decide)
        · exact h1 (hf ▸ by decide)
        · exact h2 ((btst_row_iff w).2 ⟨h, hz⟩)
        · exact h3 (hf ▸ by decide)
  · simp only [decode, and_full_mask, h0, h1, h2, h3, if_false]
    split <;> rfl

end Sys2Proof
end

