-- ==== Sys2Proof/Laws/State.lean ====
section
/-! SUPPORT. What each named update of the state does to each field: one lemma a field, true by
definition, so that no proof unfolds a record update. -/

namespace Sys2Proof.Machine

namespace State

variable (s : State)

/-! ### spendCell -/

@[simp] theorem spendCell_cfg : (s.spendCell).cfg = s.cfg := rfl
@[simp] theorem spendCell_runState : (s.spendCell).runState = s.runState := rfl
@[simp] theorem spendCell_cellIdx : (s.spendCell).cellIdx = s.cellIdx := rfl
@[simp] theorem spendCell_cnt : (s.spendCell).cnt = s.cnt := rfl
@[simp] theorem spendCell_nlim : (s.spendCell).nlim = s.nlim := rfl
@[simp] theorem spendCell_pgLen : (s.spendCell).pgLen = s.pgLen := rfl
@[simp] theorem spendCell_short : (s.spendCell).short = s.short := rfl
@[simp] theorem spendCell_long : (s.spendCell).long = s.long := rfl
@[simp] theorem spendCell_result : (s.spendCell).result = s.result := rfl
@[simp] theorem spendCell_cause : (s.spendCell).cause = s.cause := rfl
@[simp] theorem spendCell_finfo : (s.spendCell).finfo = s.finfo := rfl
@[simp] theorem spendCell_pg : (s.spendCell).pg = s.pg := rfl
@[simp] theorem spendCell_rb : (s.spendCell).rb = s.rb := rfl
@[simp] theorem spendCell_rbOld : (s.spendCell).rbOld = s.rbOld := rfl
@[simp] theorem spendCell_pgTouched : (s.spendCell).pgTouched = s.pgTouched := rfl
@[simp] theorem spendCell_rbTouched : (s.spendCell).rbTouched = s.rbTouched := rfl
@[simp] theorem spendCell_rbPeeked : (s.spendCell).rbPeeked = s.rbPeeked := rfl
@[simp] theorem spendCell_free : (s.spendCell).free = s.free + (if s.unwritten then 0 else 4) := rfl
@[simp] theorem spendCell_agenda : (s.spendCell).agenda = s.agenda := rfl
@[simp] theorem spendCell_reads : (s.spendCell).reads = s.reads := rfl
@[simp] theorem spendCell_pgByte (x : Nat) : (s.spendCell).pgByte x = s.pgByte x := rfl
@[simp] theorem spendCell_extract (x : Nat) : (s.spendCell).extract x = s.extract x := rfl
@[simp] theorem spendCell_unwritten : (s.spendCell).unwritten = s.unwritten := rfl
@[simp] theorem spendCell_owned : (s.spendCell).owned = s.owned := rfl

/-! ### memWriteRb -/

@[simp] theorem memWriteRb_cfg (a : Nat) (p : Word) : (s.memWriteRb a p).cfg = s.cfg := rfl
@[simp] theorem memWriteRb_runState (a : Nat) (p : Word) :
    (s.memWriteRb a p).runState = s.runState := rfl
@[simp] theorem memWriteRb_cellIdx (a : Nat) (p : Word) :
    (s.memWriteRb a p).cellIdx = s.cellIdx := rfl
@[simp] theorem memWriteRb_cnt (a : Nat) (p : Word) : (s.memWriteRb a p).cnt = s.cnt := rfl
@[simp] theorem memWriteRb_nlim (a : Nat) (p : Word) : (s.memWriteRb a p).nlim = s.nlim := rfl
@[simp] theorem memWriteRb_pgLen (a : Nat) (p : Word) : (s.memWriteRb a p).pgLen = s.pgLen := rfl
@[simp] theorem memWriteRb_short (a : Nat) (p : Word) : (s.memWriteRb a p).short = s.short := rfl
@[simp] theorem memWriteRb_long (a : Nat) (p : Word) : (s.memWriteRb a p).long = s.long := rfl
@[simp] theorem memWriteRb_result (a : Nat) (p : Word) : (s.memWriteRb a p).result = s.result := rfl
@[simp] theorem memWriteRb_cause (a : Nat) (p : Word) : (s.memWriteRb a p).cause = s.cause := rfl
@[simp] theorem memWriteRb_finfo (a : Nat) (p : Word) : (s.memWriteRb a p).finfo = s.finfo := rfl
@[simp] theorem memWriteRb_pg (a : Nat) (p : Word) : (s.memWriteRb a p).pg = s.pg := rfl
@[simp] theorem memWriteRb_rbOld (a : Nat) (p : Word) : (s.memWriteRb a p).rbOld = s.rbOld := rfl
@[simp] theorem memWriteRb_pgTouched (a : Nat) (p : Word) :
    (s.memWriteRb a p).pgTouched = s.pgTouched := rfl
@[simp] theorem memWriteRb_rbTouched (a : Nat) (p : Word) :
    (s.memWriteRb a p).rbTouched = s.rbTouched := rfl
@[simp] theorem memWriteRb_rbPeeked (a : Nat) (p : Word) :
    (s.memWriteRb a p).rbPeeked = s.rbPeeked := rfl
@[simp] theorem memWriteRb_free (a : Nat) (p : Word) : (s.memWriteRb a p).free = s.free := rfl
@[simp] theorem memWriteRb_agenda (a : Nat) (p : Word) : (s.memWriteRb a p).agenda = s.agenda := rfl
@[simp] theorem memWriteRb_reads (a : Nat) (p : Word) : (s.memWriteRb a p).reads = s.reads := rfl
@[simp] theorem memWriteRb_pgByte (a : Nat) (p : Word) (x : Nat) :
    (s.memWriteRb a p).pgByte x = s.pgByte x := rfl
@[simp] theorem memWriteRb_extract (a : Nat) (p : Word) (x : Nat) :
    (s.memWriteRb a p).extract x = s.extract x := rfl
@[simp] theorem memWriteRb_unwritten (a : Nat) (p : Word) :
    (s.memWriteRb a p).unwritten = s.unwritten := rfl
@[simp] theorem memWriteRb_owned (a : Nat) (p : Word) : (s.memWriteRb a p).owned = s.owned := rfl

/-! ### storePixel -/

@[simp] theorem storePixel_cfg (i : Nat) (p : Word) : (s.storePixel i p).cfg = s.cfg := rfl
@[simp] theorem storePixel_runState (i : Nat) (p : Word) :
    (s.storePixel i p).runState = s.runState := rfl
@[simp] theorem storePixel_cellIdx (i : Nat) (p : Word) :
    (s.storePixel i p).cellIdx = s.cellIdx := rfl
@[simp] theorem storePixel_cnt (i : Nat) (p : Word) : (s.storePixel i p).cnt = s.cnt := rfl
@[simp] theorem storePixel_nlim (i : Nat) (p : Word) : (s.storePixel i p).nlim = s.nlim := rfl
@[simp] theorem storePixel_pgLen (i : Nat) (p : Word) : (s.storePixel i p).pgLen = s.pgLen := rfl
@[simp] theorem storePixel_short (i : Nat) (p : Word) : (s.storePixel i p).short = s.short := rfl
@[simp] theorem storePixel_long (i : Nat) (p : Word) : (s.storePixel i p).long = s.long := rfl
@[simp] theorem storePixel_result (i : Nat) (p : Word) : (s.storePixel i p).result = s.result := rfl
@[simp] theorem storePixel_cause (i : Nat) (p : Word) : (s.storePixel i p).cause = s.cause := rfl
@[simp] theorem storePixel_finfo (i : Nat) (p : Word) : (s.storePixel i p).finfo = s.finfo := rfl
@[simp] theorem storePixel_pg (i : Nat) (p : Word) : (s.storePixel i p).pg = s.pg := rfl
@[simp] theorem storePixel_rbOld (i : Nat) (p : Word) : (s.storePixel i p).rbOld = s.rbOld := rfl
@[simp] theorem storePixel_pgTouched (i : Nat) (p : Word) :
    (s.storePixel i p).pgTouched = s.pgTouched := rfl
@[simp] theorem storePixel_rbTouched (i : Nat) (p : Word) :
    (s.storePixel i p).rbTouched = s.rbTouched := rfl
@[simp] theorem storePixel_rbPeeked (i : Nat) (p : Word) :
    (s.storePixel i p).rbPeeked = s.rbPeeked := rfl
@[simp] theorem storePixel_free (i : Nat) (p : Word) : (s.storePixel i p).free = s.free := rfl
@[simp] theorem storePixel_agenda (i : Nat) (p : Word) : (s.storePixel i p).agenda = s.agenda := rfl
@[simp] theorem storePixel_reads (i : Nat) (p : Word) : (s.storePixel i p).reads = s.reads := rfl
@[simp] theorem storePixel_pgByte (i : Nat) (p : Word) (x : Nat) :
    (s.storePixel i p).pgByte x = s.pgByte x := rfl
@[simp] theorem storePixel_extract (i : Nat) (p : Word) (x : Nat) :
    (s.storePixel i p).extract x = s.extract x := rfl
@[simp] theorem storePixel_unwritten (i : Nat) (p : Word) :
    (s.storePixel i p).unwritten = s.unwritten := rfl
@[simp] theorem storePixel_owned (i : Nat) (p : Word) : (s.storePixel i p).owned = s.owned := rfl

/-! ### count -/

@[simp] theorem count_cfg (c : Bool) : (s.count c).cfg = s.cfg := rfl
@[simp] theorem count_runState (c : Bool) : (s.count c).runState = s.runState := rfl
@[simp] theorem count_cellIdx (c : Bool) : (s.count c).cellIdx = s.cellIdx := rfl
@[simp] theorem count_cnt (c : Bool) : (s.count c).cnt = s.cnt + bitWord c := rfl
@[simp] theorem count_nlim (c : Bool) : (s.count c).nlim = s.nlim := rfl
@[simp] theorem count_pgLen (c : Bool) : (s.count c).pgLen = s.pgLen := rfl
@[simp] theorem count_short (c : Bool) : (s.count c).short = s.short := rfl
@[simp] theorem count_long (c : Bool) : (s.count c).long = s.long := rfl
@[simp] theorem count_result (c : Bool) : (s.count c).result = s.result := rfl
@[simp] theorem count_cause (c : Bool) : (s.count c).cause = s.cause := rfl
@[simp] theorem count_finfo (c : Bool) : (s.count c).finfo = s.finfo := rfl
@[simp] theorem count_pg (c : Bool) : (s.count c).pg = s.pg := rfl
@[simp] theorem count_rb (c : Bool) : (s.count c).rb = s.rb := rfl
@[simp] theorem count_rbOld (c : Bool) : (s.count c).rbOld = s.rbOld := rfl
@[simp] theorem count_pgTouched (c : Bool) : (s.count c).pgTouched = s.pgTouched := rfl
@[simp] theorem count_rbTouched (c : Bool) : (s.count c).rbTouched = s.rbTouched := rfl
@[simp] theorem count_rbPeeked (c : Bool) : (s.count c).rbPeeked = s.rbPeeked := rfl
@[simp] theorem count_free (c : Bool) : (s.count c).free = s.free := rfl
@[simp] theorem count_agenda (c : Bool) : (s.count c).agenda = s.agenda := rfl
@[simp] theorem count_reads (c : Bool) : (s.count c).reads = s.reads := rfl
@[simp] theorem count_pgByte (c : Bool) (x : Nat) : (s.count c).pgByte x = s.pgByte x := rfl
@[simp] theorem count_extract (c : Bool) (x : Nat) : (s.count c).extract x = s.extract x := rfl
@[simp] theorem count_unwritten (c : Bool) : (s.count c).unwritten = s.unwritten := rfl
@[simp] theorem count_owned (c : Bool) : (s.count c).owned = s.owned := rfl

/-! ### advance -/

@[simp] theorem advance_cfg : (s.advance).cfg = s.cfg := rfl
@[simp] theorem advance_runState : (s.advance).runState = s.runState := rfl
@[simp] theorem advance_cellIdx : (s.advance).cellIdx = s.cellIdx + 1 := rfl
@[simp] theorem advance_cnt : (s.advance).cnt = s.cnt := rfl
@[simp] theorem advance_nlim : (s.advance).nlim = s.nlim := rfl
@[simp] theorem advance_pgLen : (s.advance).pgLen = s.pgLen := rfl
@[simp] theorem advance_short : (s.advance).short = s.short := rfl
@[simp] theorem advance_long : (s.advance).long = s.long := rfl
@[simp] theorem advance_result : (s.advance).result = s.result := rfl
@[simp] theorem advance_cause : (s.advance).cause = s.cause := rfl
@[simp] theorem advance_finfo : (s.advance).finfo = s.finfo := rfl
@[simp] theorem advance_pg : (s.advance).pg = s.pg := rfl
@[simp] theorem advance_rb : (s.advance).rb = s.rb := rfl
@[simp] theorem advance_rbOld : (s.advance).rbOld = s.rbOld := rfl
@[simp] theorem advance_pgTouched : (s.advance).pgTouched = s.pgTouched := rfl
@[simp] theorem advance_rbTouched : (s.advance).rbTouched = s.rbTouched := rfl
@[simp] theorem advance_rbPeeked : (s.advance).rbPeeked = s.rbPeeked := rfl
@[simp] theorem advance_free : (s.advance).free = s.free := rfl
@[simp] theorem advance_agenda : (s.advance).agenda = s.agenda := rfl
@[simp] theorem advance_reads : (s.advance).reads = s.reads := rfl
@[simp] theorem advance_pgByte (x : Nat) : (s.advance).pgByte x = s.pgByte x := rfl
@[simp] theorem advance_extract (x : Nat) : (s.advance).extract x = s.extract x := rfl
@[simp] theorem advance_unwritten : (s.advance).unwritten = s.unwritten := rfl
@[simp] theorem advance_owned : (s.advance).owned = s.owned := rfl

/-! ### processCell -/

@[simp] theorem processCell_cfg : (s.processCell).cfg = s.cfg := rfl
@[simp] theorem processCell_runState : (s.processCell).runState = s.runState := rfl
@[simp] theorem processCell_cellIdx : (s.processCell).cellIdx = s.cellIdx + 1 := rfl
@[simp] theorem processCell_cnt :
    (s.processCell).cnt = s.cnt + bitWord (s.fetchedBit s.cellIdx.toNat) := rfl
@[simp] theorem processCell_nlim : (s.processCell).nlim = s.nlim := rfl
@[simp] theorem processCell_pgLen : (s.processCell).pgLen = s.pgLen := rfl
@[simp] theorem processCell_short : (s.processCell).short = s.short := rfl
@[simp] theorem processCell_long : (s.processCell).long = s.long := rfl
@[simp] theorem processCell_result : (s.processCell).result = s.result := rfl
@[simp] theorem processCell_cause : (s.processCell).cause = s.cause := rfl
@[simp] theorem processCell_finfo : (s.processCell).finfo = s.finfo := rfl
@[simp] theorem processCell_pg : (s.processCell).pg = s.pg := rfl
@[simp] theorem processCell_rb :
    (s.processCell).rb = (s.storePixel s.cellIdx.toNat (lut (s.fetchedBit s.cellIdx.toNat))).rb := rfl
@[simp] theorem processCell_rbOld : (s.processCell).rbOld = s.rbOld := rfl
@[simp] theorem processCell_pgTouched : (s.processCell).pgTouched = s.pgTouched := rfl
@[simp] theorem processCell_rbTouched : (s.processCell).rbTouched = s.rbTouched := rfl
@[simp] theorem processCell_rbPeeked : (s.processCell).rbPeeked = s.rbPeeked := rfl
@[simp] theorem processCell_free :
    (s.processCell).free = s.free + (if s.unwritten then 0 else 4) := rfl
@[simp] theorem processCell_agenda : (s.processCell).agenda = s.agenda := rfl
@[simp] theorem processCell_reads : (s.processCell).reads = s.reads := rfl
@[simp] theorem processCell_pgByte (x : Nat) : (s.processCell).pgByte x = s.pgByte x := rfl
@[simp] theorem processCell_extract (x : Nat) : (s.processCell).extract x = s.extract x := rfl
@[simp] theorem processCell_unwritten : (s.processCell).unwritten = s.unwritten := rfl
@[simp] theorem processCell_owned : (s.processCell).owned = s.owned := rfl

/-! ### startRun -/

@[simp] theorem startRun_cfg : (s.startRun).cfg = s.cfg := rfl
@[simp] theorem startRun_runState : (s.startRun).runState = .run := rfl
@[simp] theorem startRun_cellIdx : (s.startRun).cellIdx = 0 := rfl
@[simp] theorem startRun_cnt : (s.startRun).cnt = 0 := rfl
@[simp] theorem startRun_nlim : (s.startRun).nlim = BitVec.ofNat 32 (runLimit s.cfg s.pgLen) := rfl
@[simp] theorem startRun_pgLen : (s.startRun).pgLen = s.pgLen := rfl
@[simp] theorem startRun_short : (s.startRun).short = shortFlag s.cfg s.pgLen := rfl
@[simp] theorem startRun_long : (s.startRun).long = longFlag s.cfg s.pgLen := rfl
@[simp] theorem startRun_result : (s.startRun).result = s.result := rfl
@[simp] theorem startRun_cause : (s.startRun).cause = s.cause := rfl
@[simp] theorem startRun_finfo : (s.startRun).finfo = s.finfo := rfl
@[simp] theorem startRun_pg : (s.startRun).pg = s.pg := rfl
@[simp] theorem startRun_rb : (s.startRun).rb = s.rb := rfl
@[simp] theorem startRun_rbOld : (s.startRun).rbOld = s.rb := rfl
@[simp] theorem startRun_pgTouched : (s.startRun).pgTouched = [] := rfl
@[simp] theorem startRun_rbTouched : (s.startRun).rbTouched = [] := rfl
@[simp] theorem startRun_rbPeeked : (s.startRun).rbPeeked = false := rfl
@[simp] theorem startRun_free : (s.startRun).free = s.free := rfl
@[simp] theorem startRun_agenda : (s.startRun).agenda = s.agenda := rfl
@[simp] theorem startRun_reads : (s.startRun).reads = s.reads := rfl
@[simp] theorem startRun_pgByte (x : Nat) : (s.startRun).pgByte x = s.pgByte x := rfl
@[simp] theorem startRun_extract (x : Nat) : (s.startRun).extract x = s.extract x := rfl

/-! ### setResult -/

@[simp] theorem setResult_cfg (c : Bool) : (s.setResult c).cfg = s.cfg := rfl
@[simp] theorem setResult_runState (c : Bool) : (s.setResult c).runState = s.runState := rfl
@[simp] theorem setResult_cellIdx (c : Bool) : (s.setResult c).cellIdx = s.cellIdx := rfl
@[simp] theorem setResult_cnt (c : Bool) : (s.setResult c).cnt = s.cnt := rfl
@[simp] theorem setResult_nlim (c : Bool) : (s.setResult c).nlim = s.nlim := rfl
@[simp] theorem setResult_pgLen (c : Bool) : (s.setResult c).pgLen = s.pgLen := rfl
@[simp] theorem setResult_short (c : Bool) : (s.setResult c).short = s.short := rfl
@[simp] theorem setResult_long (c : Bool) : (s.setResult c).long = s.long := rfl
@[simp] theorem setResult_result (c : Bool) : (s.setResult c).result = c := rfl
@[simp] theorem setResult_cause (c : Bool) : (s.setResult c).cause = s.cause := rfl
@[simp] theorem setResult_finfo (c : Bool) : (s.setResult c).finfo = s.finfo := rfl
@[simp] theorem setResult_pg (c : Bool) : (s.setResult c).pg = s.pg := rfl
@[simp] theorem setResult_rb (c : Bool) : (s.setResult c).rb = s.rb := rfl
@[simp] theorem setResult_rbOld (c : Bool) : (s.setResult c).rbOld = s.rbOld := rfl
@[simp] theorem setResult_pgTouched (c : Bool) : (s.setResult c).pgTouched = s.pgTouched := rfl
@[simp] theorem setResult_rbTouched (c : Bool) : (s.setResult c).rbTouched = s.rbTouched := rfl
@[simp] theorem setResult_rbPeeked (c : Bool) : (s.setResult c).rbPeeked = s.rbPeeked := rfl
@[simp] theorem setResult_free (c : Bool) : (s.setResult c).free = s.free := rfl
@[simp] theorem setResult_agenda (c : Bool) : (s.setResult c).agenda = s.agenda := rfl
@[simp] theorem setResult_reads (c : Bool) : (s.setResult c).reads = s.reads := rfl
@[simp] theorem setResult_pgByte (c : Bool) (x : Nat) : (s.setResult c).pgByte x = s.pgByte x := rfl
@[simp] theorem setResult_extract (c : Bool) (x : Nat) :
    (s.setResult c).extract x = s.extract x := rfl
@[simp] theorem setResult_unwritten (c : Bool) : (s.setResult c).unwritten = s.unwritten := rfl
@[simp] theorem setResult_owned (c : Bool) : (s.setResult c).owned = s.owned := rfl

/-! ### setRunState -/

@[simp] theorem setRunState_cfg (r : RunState) : (s.setRunState r).cfg = s.cfg := rfl
@[simp] theorem setRunState_runState (r : RunState) : (s.setRunState r).runState = r := rfl
@[simp] theorem setRunState_cellIdx (r : RunState) : (s.setRunState r).cellIdx = s.cellIdx := rfl
@[simp] theorem setRunState_cnt (r : RunState) : (s.setRunState r).cnt = s.cnt := rfl
@[simp] theorem setRunState_nlim (r : RunState) : (s.setRunState r).nlim = s.nlim := rfl
@[simp] theorem setRunState_pgLen (r : RunState) : (s.setRunState r).pgLen = s.pgLen := rfl
@[simp] theorem setRunState_short (r : RunState) : (s.setRunState r).short = s.short := rfl
@[simp] theorem setRunState_long (r : RunState) : (s.setRunState r).long = s.long := rfl
@[simp] theorem setRunState_result (r : RunState) : (s.setRunState r).result = s.result := rfl
@[simp] theorem setRunState_cause (r : RunState) : (s.setRunState r).cause = s.cause := rfl
@[simp] theorem setRunState_finfo (r : RunState) : (s.setRunState r).finfo = s.finfo := rfl
@[simp] theorem setRunState_pg (r : RunState) : (s.setRunState r).pg = s.pg := rfl
@[simp] theorem setRunState_rb (r : RunState) : (s.setRunState r).rb = s.rb := rfl
@[simp] theorem setRunState_rbOld (r : RunState) : (s.setRunState r).rbOld = s.rbOld := rfl
@[simp] theorem setRunState_pgTouched (r : RunState) :
    (s.setRunState r).pgTouched = s.pgTouched := rfl
@[simp] theorem setRunState_rbTouched (r : RunState) :
    (s.setRunState r).rbTouched = s.rbTouched := rfl
@[simp] theorem setRunState_rbPeeked (r : RunState) : (s.setRunState r).rbPeeked = s.rbPeeked := rfl
@[simp] theorem setRunState_free (r : RunState) : (s.setRunState r).free = s.free := rfl
@[simp] theorem setRunState_agenda (r : RunState) : (s.setRunState r).agenda = s.agenda := rfl
@[simp] theorem setRunState_reads (r : RunState) : (s.setRunState r).reads = s.reads := rfl
@[simp] theorem setRunState_pgByte (r : RunState) (x : Nat) :
    (s.setRunState r).pgByte x = s.pgByte x := rfl
@[simp] theorem setRunState_extract (r : RunState) (x : Nat) :
    (s.setRunState r).extract x = s.extract x := rfl
@[simp] theorem setRunState_unwritten (r : RunState) :
    (s.setRunState r).unwritten = s.unwritten := rfl
@[simp] theorem setRunState_owned (r : RunState) : (s.setRunState r).owned = s.owned := rfl

/-! ### setPgLen -/

@[simp] theorem setPgLen_cfg (v : Word) : (s.setPgLen v).cfg = s.cfg := rfl
@[simp] theorem setPgLen_runState (v : Word) : (s.setPgLen v).runState = s.runState := rfl
@[simp] theorem setPgLen_cellIdx (v : Word) : (s.setPgLen v).cellIdx = s.cellIdx := rfl
@[simp] theorem setPgLen_cnt (v : Word) : (s.setPgLen v).cnt = s.cnt := rfl
@[simp] theorem setPgLen_nlim (v : Word) : (s.setPgLen v).nlim = s.nlim := rfl
@[simp] theorem setPgLen_pgLen (v : Word) : (s.setPgLen v).pgLen = v := rfl
@[simp] theorem setPgLen_short (v : Word) : (s.setPgLen v).short = s.short := rfl
@[simp] theorem setPgLen_long (v : Word) : (s.setPgLen v).long = s.long := rfl
@[simp] theorem setPgLen_result (v : Word) : (s.setPgLen v).result = s.result := rfl
@[simp] theorem setPgLen_cause (v : Word) : (s.setPgLen v).cause = s.cause := rfl
@[simp] theorem setPgLen_finfo (v : Word) : (s.setPgLen v).finfo = s.finfo := rfl
@[simp] theorem setPgLen_pg (v : Word) : (s.setPgLen v).pg = s.pg := rfl
@[simp] theorem setPgLen_rb (v : Word) : (s.setPgLen v).rb = s.rb := rfl
@[simp] theorem setPgLen_rbOld (v : Word) : (s.setPgLen v).rbOld = s.rbOld := rfl
@[simp] theorem setPgLen_pgTouched (v : Word) : (s.setPgLen v).pgTouched = s.pgTouched := rfl
@[simp] theorem setPgLen_rbTouched (v : Word) : (s.setPgLen v).rbTouched = s.rbTouched := rfl
@[simp] theorem setPgLen_rbPeeked (v : Word) : (s.setPgLen v).rbPeeked = s.rbPeeked := rfl
@[simp] theorem setPgLen_free (v : Word) : (s.setPgLen v).free = s.free := rfl
@[simp] theorem setPgLen_agenda (v : Word) : (s.setPgLen v).agenda = s.agenda := rfl
@[simp] theorem setPgLen_reads (v : Word) : (s.setPgLen v).reads = s.reads := rfl
@[simp] theorem setPgLen_pgByte (v : Word) (x : Nat) : (s.setPgLen v).pgByte x = s.pgByte x := rfl
@[simp] theorem setPgLen_extract (v : Word) (x : Nat) :
    (s.setPgLen v).extract x = s.extract x := rfl
@[simp] theorem setPgLen_unwritten (v : Word) : (s.setPgLen v).unwritten = s.unwritten := rfl
@[simp] theorem setPgLen_owned (v : Word) : (s.setPgLen v).owned = s.owned := rfl

/-! ### setAgenda -/

@[simp] theorem setAgenda_cfg (l : List HostMove) : (s.setAgenda l).cfg = s.cfg := rfl
@[simp] theorem setAgenda_runState (l : List HostMove) :
    (s.setAgenda l).runState = s.runState := rfl
@[simp] theorem setAgenda_cellIdx (l : List HostMove) : (s.setAgenda l).cellIdx = s.cellIdx := rfl
@[simp] theorem setAgenda_cnt (l : List HostMove) : (s.setAgenda l).cnt = s.cnt := rfl
@[simp] theorem setAgenda_nlim (l : List HostMove) : (s.setAgenda l).nlim = s.nlim := rfl
@[simp] theorem setAgenda_pgLen (l : List HostMove) : (s.setAgenda l).pgLen = s.pgLen := rfl
@[simp] theorem setAgenda_short (l : List HostMove) : (s.setAgenda l).short = s.short := rfl
@[simp] theorem setAgenda_long (l : List HostMove) : (s.setAgenda l).long = s.long := rfl
@[simp] theorem setAgenda_result (l : List HostMove) : (s.setAgenda l).result = s.result := rfl
@[simp] theorem setAgenda_cause (l : List HostMove) : (s.setAgenda l).cause = s.cause := rfl
@[simp] theorem setAgenda_finfo (l : List HostMove) : (s.setAgenda l).finfo = s.finfo := rfl
@[simp] theorem setAgenda_pg (l : List HostMove) : (s.setAgenda l).pg = s.pg := rfl
@[simp] theorem setAgenda_rb (l : List HostMove) : (s.setAgenda l).rb = s.rb := rfl
@[simp] theorem setAgenda_rbOld (l : List HostMove) : (s.setAgenda l).rbOld = s.rbOld := rfl
@[simp] theorem setAgenda_pgTouched (l : List HostMove) :
    (s.setAgenda l).pgTouched = s.pgTouched := rfl
@[simp] theorem setAgenda_rbTouched (l : List HostMove) :
    (s.setAgenda l).rbTouched = s.rbTouched := rfl
@[simp] theorem setAgenda_rbPeeked (l : List HostMove) :
    (s.setAgenda l).rbPeeked = s.rbPeeked := rfl
@[simp] theorem setAgenda_free (l : List HostMove) : (s.setAgenda l).free = s.free := rfl
@[simp] theorem setAgenda_agenda (l : List HostMove) : (s.setAgenda l).agenda = l := rfl
@[simp] theorem setAgenda_reads (l : List HostMove) : (s.setAgenda l).reads = s.reads := rfl
@[simp] theorem setAgenda_pgByte (l : List HostMove) (x : Nat) :
    (s.setAgenda l).pgByte x = s.pgByte x := rfl
@[simp] theorem setAgenda_extract (l : List HostMove) (x : Nat) :
    (s.setAgenda l).extract x = s.extract x := rfl
@[simp] theorem setAgenda_unwritten (l : List HostMove) :
    (s.setAgenda l).unwritten = s.unwritten := rfl
@[simp] theorem setAgenda_owned (l : List HostMove) : (s.setAgenda l).owned = s.owned := rfl

/-! ### logRead -/

@[simp] theorem logRead_cfg (r : HostRead) : (s.logRead r).cfg = s.cfg := rfl
@[simp] theorem logRead_runState (r : HostRead) : (s.logRead r).runState = s.runState := rfl
@[simp] theorem logRead_cellIdx (r : HostRead) : (s.logRead r).cellIdx = s.cellIdx := rfl
@[simp] theorem logRead_cnt (r : HostRead) : (s.logRead r).cnt = s.cnt := rfl
@[simp] theorem logRead_nlim (r : HostRead) : (s.logRead r).nlim = s.nlim := rfl
@[simp] theorem logRead_pgLen (r : HostRead) : (s.logRead r).pgLen = s.pgLen := rfl
@[simp] theorem logRead_short (r : HostRead) : (s.logRead r).short = s.short := rfl
@[simp] theorem logRead_long (r : HostRead) : (s.logRead r).long = s.long := rfl
@[simp] theorem logRead_result (r : HostRead) : (s.logRead r).result = s.result := rfl
@[simp] theorem logRead_cause (r : HostRead) : (s.logRead r).cause = s.cause := rfl
@[simp] theorem logRead_finfo (r : HostRead) : (s.logRead r).finfo = s.finfo := rfl
@[simp] theorem logRead_pg (r : HostRead) : (s.logRead r).pg = s.pg := rfl
@[simp] theorem logRead_rb (r : HostRead) : (s.logRead r).rb = s.rb := rfl
@[simp] theorem logRead_rbOld (r : HostRead) : (s.logRead r).rbOld = s.rbOld := rfl
@[simp] theorem logRead_pgTouched (r : HostRead) : (s.logRead r).pgTouched = s.pgTouched := rfl
@[simp] theorem logRead_rbTouched (r : HostRead) : (s.logRead r).rbTouched = s.rbTouched := rfl
@[simp] theorem logRead_rbPeeked (r : HostRead) : (s.logRead r).rbPeeked = s.rbPeeked := rfl
@[simp] theorem logRead_free (r : HostRead) : (s.logRead r).free = s.free := rfl
@[simp] theorem logRead_agenda (r : HostRead) : (s.logRead r).agenda = s.agenda := rfl
@[simp] theorem logRead_reads (r : HostRead) : (s.logRead r).reads = r :: s.reads := rfl
@[simp] theorem logRead_pgByte (r : HostRead) (x : Nat) : (s.logRead r).pgByte x = s.pgByte x := rfl
@[simp] theorem logRead_extract (r : HostRead) (x : Nat) :
    (s.logRead r).extract x = s.extract x := rfl
@[simp] theorem logRead_unwritten (r : HostRead) : (s.logRead r).unwritten = s.unwritten := rfl
@[simp] theorem logRead_owned (r : HostRead) : (s.logRead r).owned = s.owned := rfl

/-! ### spendOne -/

@[simp] theorem spendOne_cfg : (s.spendOne).cfg = s.cfg := rfl
@[simp] theorem spendOne_runState : (s.spendOne).runState = s.runState := rfl
@[simp] theorem spendOne_cellIdx : (s.spendOne).cellIdx = s.cellIdx := rfl
@[simp] theorem spendOne_cnt : (s.spendOne).cnt = s.cnt := rfl
@[simp] theorem spendOne_nlim : (s.spendOne).nlim = s.nlim := rfl
@[simp] theorem spendOne_pgLen : (s.spendOne).pgLen = s.pgLen := rfl
@[simp] theorem spendOne_short : (s.spendOne).short = s.short := rfl
@[simp] theorem spendOne_long : (s.spendOne).long = s.long := rfl
@[simp] theorem spendOne_result : (s.spendOne).result = s.result := rfl
@[simp] theorem spendOne_cause : (s.spendOne).cause = s.cause := rfl
@[simp] theorem spendOne_finfo : (s.spendOne).finfo = s.finfo := rfl
@[simp] theorem spendOne_pg : (s.spendOne).pg = s.pg := rfl
@[simp] theorem spendOne_rb : (s.spendOne).rb = s.rb := rfl
@[simp] theorem spendOne_rbOld : (s.spendOne).rbOld = s.rbOld := rfl
@[simp] theorem spendOne_pgTouched : (s.spendOne).pgTouched = s.pgTouched := rfl
@[simp] theorem spendOne_rbTouched : (s.spendOne).rbTouched = s.rbTouched := rfl
@[simp] theorem spendOne_rbPeeked : (s.spendOne).rbPeeked = s.rbPeeked := rfl
@[simp] theorem spendOne_free : (s.spendOne).free = s.free + 1 := rfl
@[simp] theorem spendOne_agenda : (s.spendOne).agenda = s.agenda := rfl
@[simp] theorem spendOne_reads : (s.spendOne).reads = s.reads := rfl
@[simp] theorem spendOne_pgByte (x : Nat) : (s.spendOne).pgByte x = s.pgByte x := rfl
@[simp] theorem spendOne_extract (x : Nat) : (s.spendOne).extract x = s.extract x := rfl
@[simp] theorem spendOne_unwritten : (s.spendOne).unwritten = s.unwritten := rfl
@[simp] theorem spendOne_owned : (s.spendOne).owned = s.owned := rfl

/-! ### setPg -/

@[simp] theorem setPg_cfg (b : Buffer) : (s.setPg b).cfg = s.cfg := rfl
@[simp] theorem setPg_runState (b : Buffer) : (s.setPg b).runState = s.runState := rfl
@[simp] theorem setPg_cellIdx (b : Buffer) : (s.setPg b).cellIdx = s.cellIdx := rfl
@[simp] theorem setPg_cnt (b : Buffer) : (s.setPg b).cnt = s.cnt := rfl
@[simp] theorem setPg_nlim (b : Buffer) : (s.setPg b).nlim = s.nlim := rfl
@[simp] theorem setPg_pgLen (b : Buffer) : (s.setPg b).pgLen = s.pgLen := rfl
@[simp] theorem setPg_short (b : Buffer) : (s.setPg b).short = s.short := rfl
@[simp] theorem setPg_long (b : Buffer) : (s.setPg b).long = s.long := rfl
@[simp] theorem setPg_result (b : Buffer) : (s.setPg b).result = s.result := rfl
@[simp] theorem setPg_cause (b : Buffer) : (s.setPg b).cause = s.cause := rfl
@[simp] theorem setPg_finfo (b : Buffer) : (s.setPg b).finfo = s.finfo := rfl
@[simp] theorem setPg_pg (b : Buffer) : (s.setPg b).pg = b := rfl
@[simp] theorem setPg_rb (b : Buffer) : (s.setPg b).rb = s.rb := rfl
@[simp] theorem setPg_rbOld (b : Buffer) : (s.setPg b).rbOld = s.rbOld := rfl
@[simp] theorem setPg_pgTouched (b : Buffer) : (s.setPg b).pgTouched = s.pgTouched := rfl
@[simp] theorem setPg_rbTouched (b : Buffer) : (s.setPg b).rbTouched = s.rbTouched := rfl
@[simp] theorem setPg_rbPeeked (b : Buffer) : (s.setPg b).rbPeeked = s.rbPeeked := rfl
@[simp] theorem setPg_free (b : Buffer) : (s.setPg b).free = s.free := rfl
@[simp] theorem setPg_agenda (b : Buffer) : (s.setPg b).agenda = s.agenda := rfl
@[simp] theorem setPg_reads (b : Buffer) : (s.setPg b).reads = s.reads := rfl
@[simp] theorem setPg_unwritten (b : Buffer) : (s.setPg b).unwritten = s.unwritten := rfl
@[simp] theorem setPg_owned (b : Buffer) : (s.setPg b).owned = s.owned := rfl

/-! ### setRb -/

@[simp] theorem setRb_cfg (b : Buffer) : (s.setRb b).cfg = s.cfg := rfl
@[simp] theorem setRb_runState (b : Buffer) : (s.setRb b).runState = s.runState := rfl
@[simp] theorem setRb_cellIdx (b : Buffer) : (s.setRb b).cellIdx = s.cellIdx := rfl
@[simp] theorem setRb_cnt (b : Buffer) : (s.setRb b).cnt = s.cnt := rfl
@[simp] theorem setRb_nlim (b : Buffer) : (s.setRb b).nlim = s.nlim := rfl
@[simp] theorem setRb_pgLen (b : Buffer) : (s.setRb b).pgLen = s.pgLen := rfl
@[simp] theorem setRb_short (b : Buffer) : (s.setRb b).short = s.short := rfl
@[simp] theorem setRb_long (b : Buffer) : (s.setRb b).long = s.long := rfl
@[simp] theorem setRb_result (b : Buffer) : (s.setRb b).result = s.result := rfl
@[simp] theorem setRb_cause (b : Buffer) : (s.setRb b).cause = s.cause := rfl
@[simp] theorem setRb_finfo (b : Buffer) : (s.setRb b).finfo = s.finfo := rfl
@[simp] theorem setRb_pg (b : Buffer) : (s.setRb b).pg = s.pg := rfl
@[simp] theorem setRb_rb (b : Buffer) : (s.setRb b).rb = b := rfl
@[simp] theorem setRb_rbOld (b : Buffer) : (s.setRb b).rbOld = s.rbOld := rfl
@[simp] theorem setRb_pgTouched (b : Buffer) : (s.setRb b).pgTouched = s.pgTouched := rfl
@[simp] theorem setRb_rbTouched (b : Buffer) : (s.setRb b).rbTouched = s.rbTouched := rfl
@[simp] theorem setRb_rbPeeked (b : Buffer) : (s.setRb b).rbPeeked = s.rbPeeked := rfl
@[simp] theorem setRb_free (b : Buffer) : (s.setRb b).free = s.free := rfl
@[simp] theorem setRb_agenda (b : Buffer) : (s.setRb b).agenda = s.agenda := rfl
@[simp] theorem setRb_reads (b : Buffer) : (s.setRb b).reads = s.reads := rfl
@[simp] theorem setRb_pgByte (b : Buffer) (x : Nat) : (s.setRb b).pgByte x = s.pgByte x := rfl
@[simp] theorem setRb_extract (b : Buffer) (x : Nat) : (s.setRb b).extract x = s.extract x := rfl
@[simp] theorem setRb_unwritten (b : Buffer) : (s.setRb b).unwritten = s.unwritten := rfl
@[simp] theorem setRb_owned (b : Buffer) : (s.setRb b).owned = s.owned := rfl

/-! ### touchPg -/

@[simp] theorem touchPg_cfg (o : Nat) : (s.touchPg o).cfg = s.cfg := rfl
@[simp] theorem touchPg_runState (o : Nat) : (s.touchPg o).runState = s.runState := rfl
@[simp] theorem touchPg_cellIdx (o : Nat) : (s.touchPg o).cellIdx = s.cellIdx := rfl
@[simp] theorem touchPg_cnt (o : Nat) : (s.touchPg o).cnt = s.cnt := rfl
@[simp] theorem touchPg_nlim (o : Nat) : (s.touchPg o).nlim = s.nlim := rfl
@[simp] theorem touchPg_pgLen (o : Nat) : (s.touchPg o).pgLen = s.pgLen := rfl
@[simp] theorem touchPg_short (o : Nat) : (s.touchPg o).short = s.short := rfl
@[simp] theorem touchPg_long (o : Nat) : (s.touchPg o).long = s.long := rfl
@[simp] theorem touchPg_result (o : Nat) : (s.touchPg o).result = s.result := rfl
@[simp] theorem touchPg_cause (o : Nat) : (s.touchPg o).cause = s.cause := rfl
@[simp] theorem touchPg_finfo (o : Nat) : (s.touchPg o).finfo = s.finfo := rfl
@[simp] theorem touchPg_pg (o : Nat) : (s.touchPg o).pg = s.pg := rfl
@[simp] theorem touchPg_rb (o : Nat) : (s.touchPg o).rb = s.rb := rfl
@[simp] theorem touchPg_rbOld (o : Nat) : (s.touchPg o).rbOld = s.rbOld := rfl
@[simp] theorem touchPg_pgTouched (o : Nat) : (s.touchPg o).pgTouched = o :: s.pgTouched := rfl
@[simp] theorem touchPg_rbTouched (o : Nat) : (s.touchPg o).rbTouched = s.rbTouched := rfl
@[simp] theorem touchPg_rbPeeked (o : Nat) : (s.touchPg o).rbPeeked = s.rbPeeked := rfl
@[simp] theorem touchPg_free (o : Nat) : (s.touchPg o).free = s.free := rfl
@[simp] theorem touchPg_agenda (o : Nat) : (s.touchPg o).agenda = s.agenda := rfl
@[simp] theorem touchPg_reads (o : Nat) : (s.touchPg o).reads = s.reads := rfl
@[simp] theorem touchPg_pgByte (o : Nat) (x : Nat) : (s.touchPg o).pgByte x = s.pgByte x := rfl
@[simp] theorem touchPg_extract (o : Nat) (x : Nat) : (s.touchPg o).extract x = s.extract x := rfl

/-! ### touchRb -/

@[simp] theorem touchRb_cfg (o : Nat) : (s.touchRb o).cfg = s.cfg := rfl
@[simp] theorem touchRb_runState (o : Nat) : (s.touchRb o).runState = s.runState := rfl
@[simp] theorem touchRb_cellIdx (o : Nat) : (s.touchRb o).cellIdx = s.cellIdx := rfl
@[simp] theorem touchRb_cnt (o : Nat) : (s.touchRb o).cnt = s.cnt := rfl
@[simp] theorem touchRb_nlim (o : Nat) : (s.touchRb o).nlim = s.nlim := rfl
@[simp] theorem touchRb_pgLen (o : Nat) : (s.touchRb o).pgLen = s.pgLen := rfl
@[simp] theorem touchRb_short (o : Nat) : (s.touchRb o).short = s.short := rfl
@[simp] theorem touchRb_long (o : Nat) : (s.touchRb o).long = s.long := rfl
@[simp] theorem touchRb_result (o : Nat) : (s.touchRb o).result = s.result := rfl
@[simp] theorem touchRb_cause (o : Nat) : (s.touchRb o).cause = s.cause := rfl
@[simp] theorem touchRb_finfo (o : Nat) : (s.touchRb o).finfo = s.finfo := rfl
@[simp] theorem touchRb_pg (o : Nat) : (s.touchRb o).pg = s.pg := rfl
@[simp] theorem touchRb_rb (o : Nat) : (s.touchRb o).rb = s.rb := rfl
@[simp] theorem touchRb_rbOld (o : Nat) : (s.touchRb o).rbOld = s.rbOld := rfl
@[simp] theorem touchRb_pgTouched (o : Nat) : (s.touchRb o).pgTouched = s.pgTouched := rfl
@[simp] theorem touchRb_rbTouched (o : Nat) : (s.touchRb o).rbTouched = o :: s.rbTouched := rfl
@[simp] theorem touchRb_rbPeeked (o : Nat) : (s.touchRb o).rbPeeked = s.rbPeeked := rfl
@[simp] theorem touchRb_free (o : Nat) : (s.touchRb o).free = s.free := rfl
@[simp] theorem touchRb_agenda (o : Nat) : (s.touchRb o).agenda = s.agenda := rfl
@[simp] theorem touchRb_reads (o : Nat) : (s.touchRb o).reads = s.reads := rfl
@[simp] theorem touchRb_pgByte (o : Nat) (x : Nat) : (s.touchRb o).pgByte x = s.pgByte x := rfl
@[simp] theorem touchRb_extract (o : Nat) (x : Nat) : (s.touchRb o).extract x = s.extract x := rfl

/-! ### raise -/

@[simp] theorem raise_cfg (f : FaultCause) (info : Word) : (s.raise f info).cfg = s.cfg := rfl
@[simp] theorem raise_runState (f : FaultCause) (info : Word) :
    (s.raise f info).runState = .fault := rfl
@[simp] theorem raise_cellIdx (f : FaultCause) (info : Word) :
    (s.raise f info).cellIdx = s.cellIdx := rfl
@[simp] theorem raise_cnt (f : FaultCause) (info : Word) : (s.raise f info).cnt = s.cnt := rfl
@[simp] theorem raise_nlim (f : FaultCause) (info : Word) : (s.raise f info).nlim = s.nlim := rfl
@[simp] theorem raise_pgLen (f : FaultCause) (info : Word) : (s.raise f info).pgLen = s.pgLen := rfl
@[simp] theorem raise_short (f : FaultCause) (info : Word) : (s.raise f info).short = s.short := rfl
@[simp] theorem raise_long (f : FaultCause) (info : Word) : (s.raise f info).long = s.long := rfl
@[simp] theorem raise_result (f : FaultCause) (info : Word) :
    (s.raise f info).result = s.result := rfl
@[simp] theorem raise_cause (f : FaultCause) (info : Word) :
    (s.raise f info).cause = causeCode f := rfl
@[simp] theorem raise_finfo (f : FaultCause) (info : Word) : (s.raise f info).finfo = info := rfl
@[simp] theorem raise_pg (f : FaultCause) (info : Word) : (s.raise f info).pg = s.pg := rfl
@[simp] theorem raise_rb (f : FaultCause) (info : Word) : (s.raise f info).rb = s.rb := rfl
@[simp] theorem raise_rbOld (f : FaultCause) (info : Word) : (s.raise f info).rbOld = s.rbOld := rfl
@[simp] theorem raise_pgTouched (f : FaultCause) (info : Word) :
    (s.raise f info).pgTouched = s.pgTouched := rfl
@[simp] theorem raise_rbTouched (f : FaultCause) (info : Word) :
    (s.raise f info).rbTouched = s.rbTouched := rfl
@[simp] theorem raise_rbPeeked (f : FaultCause) (info : Word) :
    (s.raise f info).rbPeeked = s.rbPeeked := rfl
@[simp] theorem raise_free (f : FaultCause) (info : Word) : (s.raise f info).free = s.free := rfl
@[simp] theorem raise_agenda (f : FaultCause) (info : Word) :
    (s.raise f info).agenda = s.agenda := rfl
@[simp] theorem raise_reads (f : FaultCause) (info : Word) : (s.raise f info).reads = s.reads := rfl
@[simp] theorem raise_pgByte (f : FaultCause) (info : Word) (x : Nat) :
    (s.raise f info).pgByte x = s.pgByte x := rfl
@[simp] theorem raise_extract (f : FaultCause) (info : Word) (x : Nat) :
    (s.raise f info).extract x = s.extract x := rfl
@[simp] theorem raise_unwritten (f : FaultCause) (info : Word) :
    (s.raise f info).unwritten = s.unwritten := rfl
@[simp] theorem raise_owned (f : FaultCause) (info : Word) : (s.raise f info).owned = s.owned := rfl

/-! ### fireReset -/

@[simp] theorem fireReset_cfg : (s.fireReset).cfg = s.cfg := rfl
@[simp] theorem fireReset_runState : (s.fireReset).runState = .idle := rfl
@[simp] theorem fireReset_cellIdx : (s.fireReset).cellIdx = 0 := rfl
@[simp] theorem fireReset_cnt : (s.fireReset).cnt = 0 := rfl
@[simp] theorem fireReset_nlim : (s.fireReset).nlim = 0 := rfl
@[simp] theorem fireReset_pgLen : (s.fireReset).pgLen = 0 := rfl
@[simp] theorem fireReset_short : (s.fireReset).short = false := rfl
@[simp] theorem fireReset_long : (s.fireReset).long = false := rfl
@[simp] theorem fireReset_result : (s.fireReset).result = false := rfl
@[simp] theorem fireReset_cause : (s.fireReset).cause = 0 := rfl
@[simp] theorem fireReset_finfo : (s.fireReset).finfo = 0 := rfl
@[simp] theorem fireReset_pg : (s.fireReset).pg = s.pg := rfl
@[simp] theorem fireReset_rb : (s.fireReset).rb = s.rb := rfl
@[simp] theorem fireReset_rbOld : (s.fireReset).rbOld = s.rbOld := rfl
@[simp] theorem fireReset_pgTouched : (s.fireReset).pgTouched = s.pgTouched := rfl
@[simp] theorem fireReset_rbTouched : (s.fireReset).rbTouched = s.rbTouched := rfl
@[simp] theorem fireReset_rbPeeked : (s.fireReset).rbPeeked = s.rbPeeked := rfl
@[simp] theorem fireReset_free : (s.fireReset).free = s.free := rfl
@[simp] theorem fireReset_agenda : (s.fireReset).agenda = s.agenda := rfl
@[simp] theorem fireReset_reads : (s.fireReset).reads = s.reads := rfl
@[simp] theorem fireReset_pgByte (x : Nat) : (s.fireReset).pgByte x = s.pgByte x := rfl
@[simp] theorem fireReset_extract (x : Nat) : (s.fireReset).extract x = s.extract x := rfl
@[simp] theorem fireReset_unwritten : (s.fireReset).unwritten = s.unwritten := rfl
@[simp] theorem fireReset_owned : (s.fireReset).owned = s.owned := rfl

/-! ### noteRbRead -/

@[simp] theorem noteRbRead_cfg : (s.noteRbRead).cfg = s.cfg := rfl
@[simp] theorem noteRbRead_runState : (s.noteRbRead).runState = s.runState := rfl
@[simp] theorem noteRbRead_cellIdx : (s.noteRbRead).cellIdx = s.cellIdx := rfl
@[simp] theorem noteRbRead_cnt : (s.noteRbRead).cnt = s.cnt := rfl
@[simp] theorem noteRbRead_nlim : (s.noteRbRead).nlim = s.nlim := rfl
@[simp] theorem noteRbRead_pgLen : (s.noteRbRead).pgLen = s.pgLen := rfl
@[simp] theorem noteRbRead_short : (s.noteRbRead).short = s.short := rfl
@[simp] theorem noteRbRead_long : (s.noteRbRead).long = s.long := rfl
@[simp] theorem noteRbRead_result : (s.noteRbRead).result = s.result := rfl
@[simp] theorem noteRbRead_cause : (s.noteRbRead).cause = s.cause := rfl
@[simp] theorem noteRbRead_finfo : (s.noteRbRead).finfo = s.finfo := rfl
@[simp] theorem noteRbRead_pg : (s.noteRbRead).pg = s.pg := rfl
@[simp] theorem noteRbRead_rb : (s.noteRbRead).rb = s.rb := rfl
@[simp] theorem noteRbRead_rbOld : (s.noteRbRead).rbOld = s.rbOld := rfl
@[simp] theorem noteRbRead_pgTouched : (s.noteRbRead).pgTouched = s.pgTouched := rfl
@[simp] theorem noteRbRead_rbTouched : (s.noteRbRead).rbTouched = s.rbTouched := rfl
@[simp] theorem noteRbRead_rbPeeked :
    (s.noteRbRead).rbPeeked = (s.rbPeeked || decide (s.runState = .run)) := rfl
@[simp] theorem noteRbRead_free :
    (s.noteRbRead).free = s.free + (if s.runState = .run then 1 else 0) := rfl
@[simp] theorem noteRbRead_agenda : (s.noteRbRead).agenda = s.agenda := rfl
@[simp] theorem noteRbRead_reads : (s.noteRbRead).reads = s.reads := rfl
@[simp] theorem noteRbRead_pgByte (x : Nat) : (s.noteRbRead).pgByte x = s.pgByte x := rfl
@[simp] theorem noteRbRead_extract (x : Nat) : (s.noteRbRead).extract x = s.extract x := rfl
@[simp] theorem noteRbRead_unwritten : (s.noteRbRead).unwritten = s.unwritten := rfl

/-! ### contendedWrite -/

@[simp] theorem contendedWrite_cfg (o : Nat) (v : Byte) : (s.contendedWrite o v).cfg = s.cfg := rfl
@[simp] theorem contendedWrite_runState (o : Nat) (v : Byte) :
    (s.contendedWrite o v).runState = s.runState := rfl
@[simp] theorem contendedWrite_cellIdx (o : Nat) (v : Byte) :
    (s.contendedWrite o v).cellIdx = s.cellIdx := rfl
@[simp] theorem contendedWrite_cnt (o : Nat) (v : Byte) : (s.contendedWrite o v).cnt = s.cnt := rfl
@[simp] theorem contendedWrite_nlim (o : Nat) (v : Byte) :
    (s.contendedWrite o v).nlim = s.nlim := rfl
@[simp] theorem contendedWrite_pgLen (o : Nat) (v : Byte) :
    (s.contendedWrite o v).pgLen = s.pgLen := rfl
@[simp] theorem contendedWrite_short (o : Nat) (v : Byte) :
    (s.contendedWrite o v).short = s.short := rfl
@[simp] theorem contendedWrite_long (o : Nat) (v : Byte) :
    (s.contendedWrite o v).long = s.long := rfl
@[simp] theorem contendedWrite_result (o : Nat) (v : Byte) :
    (s.contendedWrite o v).result = s.result := rfl
@[simp] theorem contendedWrite_cause (o : Nat) (v : Byte) :
    (s.contendedWrite o v).cause = s.cause := rfl
@[simp] theorem contendedWrite_finfo (o : Nat) (v : Byte) :
    (s.contendedWrite o v).finfo = s.finfo := rfl
@[simp] theorem contendedWrite_pg (o : Nat) (v : Byte) : (s.contendedWrite o v).pg = s.pg := rfl
@[simp] theorem contendedWrite_rb (o : Nat) (v : Byte) :
    (s.contendedWrite o v).rb = if s.writeLands o then s.rb.write o v else s.rb := rfl
@[simp] theorem contendedWrite_rbOld (o : Nat) (v : Byte) :
    (s.contendedWrite o v).rbOld = s.rbOld := rfl
@[simp] theorem contendedWrite_pgTouched (o : Nat) (v : Byte) :
    (s.contendedWrite o v).pgTouched = s.pgTouched := rfl
@[simp] theorem contendedWrite_rbTouched (o : Nat) (v : Byte) :
    (s.contendedWrite o v).rbTouched = o :: s.rbTouched := rfl
@[simp] theorem contendedWrite_rbPeeked (o : Nat) (v : Byte) :
    (s.contendedWrite o v).rbPeeked = s.rbPeeked := rfl
@[simp] theorem contendedWrite_free (o : Nat) (v : Byte) :
    (s.contendedWrite o v).free = s.free + 1 := rfl
@[simp] theorem contendedWrite_agenda (o : Nat) (v : Byte) :
    (s.contendedWrite o v).agenda = s.agenda := rfl
@[simp] theorem contendedWrite_reads (o : Nat) (v : Byte) :
    (s.contendedWrite o v).reads = s.reads := rfl
@[simp] theorem contendedWrite_pgByte (o : Nat) (v : Byte) (x : Nat) :
    (s.contendedWrite o v).pgByte x = s.pgByte x := rfl
@[simp] theorem contendedWrite_extract (o : Nat) (v : Byte) (x : Nat) :
    (s.contendedWrite o v).extract x = s.extract x := rfl

/-- Putting the agenda back as it was changes nothing. -/
@[simp] theorem setAgenda_self : s.setAgenda s.agenda = s := rfl

/-- Only the last agenda set counts. -/
@[simp] theorem setAgenda_setAgenda (l m : List HostMove) :
    (s.setAgenda l).setAgenda m = s.setAgenda m := rfl

end State

end Sys2Proof.Machine
end

