-- ==== Sys2Proof/Laws/Flags.lean ====
section
/-! SUPPORT. What the run limit, the warning flags and the STATUS word say. -/

namespace Sys2Proof.Machine

variable {c : Config} {len : Word}

/-- SHORT is the comparison of R26. -/
theorem shortFlag_iff : shortFlag c len = true ↔ gridBits len < c.ncells := decide_eq_true_iff

/-- LONG is the comparison of R26. -/
theorem longFlag_iff : longFlag c len = true ↔ c.ncells < gridBits len := decide_eq_true_iff

/-- At most one of SHORT and LONG is 1 (R26). -/
theorem not_short_and_long : ¬ (shortFlag c len = true ∧ longFlag c len = true) := by
  rw [shortFlag_iff, longFlag_iff]
  omega

theorem runLimit_le_ncells : runLimit c len ≤ c.ncells := Nat.min_le_left _ _

theorem runLimit_le_bits : runLimit c len ≤ gridBits len := Nat.min_le_right _ _

/-- The run limit is the whole board exactly when the grid is not short (R47 item 7). -/
theorem runLimit_eq_ncells : runLimit c len = c.ncells ↔ shortFlag c len = false := by
  rw [← Bool.not_eq_true, shortFlag_iff]
  unfold runLimit
  omega

/-- The three parts of R6's constraint. -/
theorem wellFormed_parts (h : c.wellFormed = true) :
    1 ≤ c.width ∧ 1 ≤ c.height ∧ c.ncells ≤ 2 ^ 30 := by
  simp only [Config.wellFormed, Bool.and_eq_true, decide_eq_true_eq] at h
  exact ⟨h.1.1, h.1.2, h.2⟩

/-- NLIM holds the run limit exactly: it fits 32 bits (R24, R172). -/
theorem startRun_nlim_toNat {s : State} (h : s.cfg.wellFormed = true) :
    s.startRun.nlim.toNat = runLimit s.cfg s.pgLen := by
  have h1 := (wellFormed_parts h).2.2
  have h2 := runLimit_le_ncells (c := s.cfg) (len := s.pgLen)
  rw [State.startRun_nlim, BitVec.toNat_ofNat]
  exact Nat.mod_eq_of_lt (by omega)

/-- The five fields of STATUS and its zeros (R34). -/
theorem statusWord_getLsbD (r : RunState) (short long : Bool) (n : Nat) :
    (statusWord r short long).getLsbD n =
      if n = 0 then decide (r = .run) else if n = 1 then decide (r = .done)
      else if n = 2 then decide (r = .fault) else if n = 3 then short
      else if n = 4 then long else false := by
  by_cases h : n < 32
  · have key : ∀ j < 32, (statusWord r short long).getLsbD j =
        if j = 0 then decide (r = .run) else if j = 1 then decide (r = .done)
        else if j = 2 then decide (r = .fault) else if j = 3 then short
        else if j = 4 then long else false := by
      cases r <;> cases short <;> cases long <;> decide
    exact key n h
  · rw [BitVec.getLsbD_of_ge _ n (by omega)]
    simp [show n ≠ 0 by omega, show n ≠ 1 by omega, show n ≠ 2 by omega, show n ≠ 3 by omega,
      show n ≠ 4 by omega]

/-- No fault has cause code 0 (R190). -/
@[simp] theorem causeCode_ne_zero (f : FaultCause) : causeCode f ≠ 0#3 := by cases f <;> decide

/-- No cause code is above 4 (R28). -/
theorem causeCode_le (f : FaultCause) : (causeCode f).toNat ≤ 4 := by cases f <;> decide

end Sys2Proof.Machine
end

