-- ==== Sys2Proof/Laws/Memory.lean ====
section
/-! SUPPORT. The laws of memory: a read after a write, the canonical form, a placed buffer, and the
four bytes of a pixel store. -/

namespace Sys2Proof.Machine

variable {m : Memory} {b : Buffer} {o a : Nat} {v : Byte}

/-! ### One byte -/

@[simp] theorem read?_write_same (m : Memory) (o : Nat) (v : Byte) :
    (m.write o v).read? o = some v := by
  induction m with
  | nil => simp [Memory.write, Memory.read?]
  | cons c m ih =>
    obtain ⟨a, x⟩ := c
    simp only [Memory.write]
    split
    · simp [Memory.read?]
    · split
      · simp [Memory.read?]
      · rename_i h1 h2
        simp [Memory.read?, Ne.symm h2, ih]

theorem read?_write_other (m : Memory) (v : Byte) (h : a ≠ o) :
    (m.write o v).read? a = m.read? a := by
  induction m with
  | nil => simp [Memory.write, Memory.read?, Ne.symm h]
  | cons c m ih =>
    obtain ⟨b, x⟩ := c
    simp only [Memory.write]
    split
    · simp [Memory.read?, Ne.symm h]
    · split
      · rename_i h1 h2
        subst h2
        simp [Memory.read?, Ne.symm h]
      · simp [Memory.read?, ih]

theorem mem_write {c : Host.Cell} (hc : c ∈ m.write o v) : c = (o, v) ∨ c ∈ m := by
  induction m with
  | nil => simpa [Memory.write] using hc
  | cons d m ih =>
    obtain ⟨a, x⟩ := d
    simp only [Memory.write] at hc
    split at hc
    · simpa using hc
    · split at hc
      · rcases List.mem_cons.1 hc with h | h
        · exact .inl h
        · exact .inr (List.mem_cons_of_mem _ h)
      · rcases List.mem_cons.1 hc with h | h
        · exact .inr (h ▸ List.mem_cons_self)
        · exact (ih h).imp id (List.mem_cons_of_mem _)

/-- A write keeps the canonical form. -/
theorem write_wf (h : m.wf) : (m.write o v).wf := by
  induction m with
  | nil => simp [Memory.write, Memory.wf]
  | cons d m ih =>
    obtain ⟨a, x⟩ := d
    obtain ⟨hd, hm⟩ := List.pairwise_cons.1 h
    simp only [Memory.write]
    split
    · rename_i hlt
      refine List.pairwise_cons.2 ⟨fun c hc => ?_, h⟩
      rcases List.mem_cons.1 hc with rfl | hc
      · exact hlt
      · exact Nat.lt_trans hlt (hd c hc)
    · split
      · rename_i heq
        subst heq
        exact List.pairwise_cons.2 ⟨hd, hm⟩
      · rename_i h1 h2
        refine List.pairwise_cons.2 ⟨fun c hc => ?_, ih hm⟩
        rcases mem_write hc with rfl | hc
        · show a < o
          omega
        · exact hd c hc

theorem read?_none_of_lt (h : ∀ c ∈ m, o < c.1) : m.read? o = none := by
  induction m with
  | nil => rfl
  | cons d m ih =>
    obtain ⟨a, x⟩ := d
    have ha : o < a := h (a, x) List.mem_cons_self
    simp [Memory.read?, Nat.ne_of_gt ha, ih fun c hc => h c (List.mem_cons_of_mem _ hc)]

/-- Writing the byte that is already listed changes nothing. -/
theorem write_listed (hm : m.wf) (h : m.read? o = some v) : m.write o v = m := by
  induction m with
  | nil => simp [Memory.read?] at h
  | cons d m ih =>
    obtain ⟨a, x⟩ := d
    obtain ⟨hd, hwf⟩ := List.pairwise_cons.1 hm
    simp only [Memory.write]
    simp only [Memory.read?] at h
    split at h
    · rename_i heq
      subst heq
      cases h
      simp
    · rename_i hne
      split
      · rename_i hlt
        have : Memory.read? m o = none :=
          read?_none_of_lt fun c hc => Nat.lt_trans hlt (hd c hc)
        simp [this] at h
      · rw [if_neg (Ne.symm hne), ih hwf h]

/-! ### Buffers -/

/-- A buffer write keeps the buffer canonical. -/
theorem Buffer.write_wf (hb : b.wf) (ho : o < b.size) : (b.write o v).wf :=
  ⟨Machine.write_wf hb.1, fun c hc => by
    rcases mem_write hc with rfl | hc
    · exact ho
    · exact hb.2 c hc⟩

@[simp] theorem Buffer.write_size (b : Buffer) (o : Nat) (v : Byte) :
    (b.write o v).size = b.size := rfl

@[simp] theorem Buffer.rbByte_write_same (b : Buffer) (o : Nat) (v : Byte) :
    (b.write o v).rbByte o = v := by
  simp [Buffer.rbByte, Buffer.write]

theorem Buffer.rbByte_write_other (b : Buffer) (v : Byte) (h : a ≠ o) :
    (b.write o v).rbByte a = b.rbByte a := by
  simp [Buffer.rbByte, Buffer.write, read?_write_other _ _ h]

/-- The four byte writes of a pixel store are four buffer writes. -/
theorem memWriteRb_rb (s : State) (a : Nat) (p : Word) :
    (s.memWriteRb a p).rb =
      (((s.rb.write a (s.settled a 0 p)).write (a + 1) (s.settled a 1 p)).write (a + 2)
        (s.settled a 2 p)).write (a + 3) (s.settled a 3 p) := rfl

@[simp] theorem memWriteRb_size (s : State) (a : Nat) (p : Word) :
    (s.memWriteRb a p).rb.size = s.rb.size := rfl

@[simp] theorem storePixel_size (s : State) (i : Nat) (p : Word) :
    (s.storePixel i p).rb.size = s.rb.size := rfl

/-- What a pixel store leaves at each of its four offsets. -/
theorem memWriteRb_byte (s : State) (a : Nat) (p : Word) {n : Nat} (hn : n < 4) :
    (s.memWriteRb a p).rb.rbByte (a + n) = s.settled a n p := by
  rw [memWriteRb_rb]
  have hn' : n = 0 ∨ n = 1 ∨ n = 2 ∨ n = 3 := by omega
  rcases hn' with rfl | rfl | rfl | rfl
  · rw [Buffer.rbByte_write_other _ _ (by omega), Buffer.rbByte_write_other _ _ (by omega),
      Buffer.rbByte_write_other _ _ (by omega), Nat.add_zero, Buffer.rbByte_write_same]
  · rw [Buffer.rbByte_write_other _ _ (by omega), Buffer.rbByte_write_other _ _ (by omega),
      Buffer.rbByte_write_same]
  · rw [Buffer.rbByte_write_other _ _ (by omega), Buffer.rbByte_write_same]
  · rw [Buffer.rbByte_write_same]

/-- A pixel store leaves every other byte alone. -/
theorem memWriteRb_other (s : State) (a : Nat) (p : Word) {x : Nat} (h : x < a ∨ a + 4 ≤ x) :
    (s.memWriteRb a p).rb.rbByte x = s.rb.rbByte x := by
  rw [memWriteRb_rb, Buffer.rbByte_write_other _ _ (by omega),
    Buffer.rbByte_write_other _ _ (by omega), Buffer.rbByte_write_other _ _ (by omega),
    Buffer.rbByte_write_other _ _ (by omega)]

/-- A pixel store inside the buffer keeps it canonical. -/
theorem memWriteRb_wf (s : State) (a : Nat) (p : Word) (h : s.rb.wf) (ha : a + 3 < s.rb.size) :
    (s.memWriteRb a p).rb.wf := by
  rw [memWriteRb_rb]
  refine Buffer.write_wf (Buffer.write_wf (Buffer.write_wf (Buffer.write_wf h ?_) ?_) ?_) ?_ <;>
    (try simp only [Buffer.write_size]) <;> omega

/-! ### Placed buffers -/

theorem mem_place {o : Nat} {bs : List Byte} {c : Host.Cell} (h : c ∈ Memory.place o bs) :
    o ≤ c.1 ∧ c.1 < o + bs.length := by
  induction bs generalizing o with
  | nil => simp [Memory.place] at h
  | cons x bs ih =>
    rcases List.mem_cons.1 h with rfl | h
    · simp
    · have := ih h
      simp only [List.length_cons]
      omega

theorem place_wf (o : Nat) (bs : List Byte) : (Memory.place o bs).wf := by
  induction bs generalizing o with
  | nil => exact List.Pairwise.nil
  | cons x bs ih =>
    refine List.pairwise_cons.2 ⟨fun c hc => ?_, ih (o + 1)⟩
    have := mem_place hc
    show o < c.1
    omega

/-- A placed buffer is canonical. -/
theorem Buffer.ofBytes_wf (bs : List Byte) : (Buffer.ofBytes bs).wf :=
  ⟨place_wf 0 bs, fun c hc => by have := mem_place hc; simp [Buffer.ofBytes]; omega⟩

/-- The memories after reset are canonical. -/
theorem reset_memories_wf : State.reset.pg.wf ∧ State.reset.rb.wf ∧ State.reset.rbOld.wf := by decide

/-- A placed buffer lists its bytes in order. -/
theorem read?_place (o : Nat) (bs : List Byte) (i : Nat) :
    (Memory.place o bs).read? (o + i) = bs[i]? := by
  induction bs generalizing o i with
  | nil => rfl
  | cons x bs ih =>
    cases i with
    | zero => simp [Memory.place, Memory.read?]
    | succ i =>
      have h : o ≠ o + (i + 1) := by omega
      simp only [Memory.place, Memory.read?, if_neg h, List.getElem?_cons_succ]
      rw [show o + (i + 1) = o + 1 + i by omega, ih]

end Sys2Proof.Machine
end

