-- ==== Sys2Proof/Laws/Operands.lean ====
section
/-! SUPPORT. The laws of the pure micro-operations: TEST reads a bit, the LUT's bytes, and what
FETCH and STORE give while the host has written neither buffer. -/

namespace Sys2Proof.Machine

/-- In its domain TEST(v, k) is bit k of v (R122). -/
theorem testBit_eq_getLsbD (v : Byte) {k : Nat} (hk : k < 8) : testBit v k = v.getLsbD k := by
  have h : ∀ j < 8, (v &&& (1#8 <<< k)).getLsbD j = (decide (j = k) && v.getLsbD k) := by
    intro j hj
    simp only [BitVec.getLsbD_and, BitVec.getLsbD_shiftLeft, BitVec.getLsbD_one]
    by_cases hjk : j = k
    · subst hjk
      simp [hk]
    · by_cases hlt : j < k
      · simp [hjk, hlt]
      · have : j - k ≠ 0 := by omega
        simp [hjk, this]
  unfold testBit
  cases hv : v.getLsbD k
  · have : v &&& (1#8 <<< k) = 0#8 := by
      apply BitVec.eq_of_getLsbD_eq
      intro j hj
      rw [h j hj, hv]
      simp
    simp [this]
  · have : v &&& (1#8 <<< k) ≠ 0#8 := by
      intro h0
      have := h k hk
      rw [h0, hv] at this
      simp at this
    simpa using this

/-- In its domain TEST(v, k) is `(v >> k) & 1` (R122, R125 law 1). -/
theorem testBit_eq_shift (v : Byte) {k : Nat} (hk : k < 8) :
    testBit v k = decide ((v.toNat >>> k) % 2 = 1) := by
  rw [testBit_eq_getLsbD v hk, BitVec.getLsbD, Nat.testBit, Nat.one_and_eq_mod_two]
  rcases Nat.mod_two_eq_zero_or_one (v.toNat >>> k) with h | h <;> simp [h]

theorem splitBit_lt (i : Nat) : splitBit i < 8 := Nat.mod_lt _ (by omega)

/-- R is 255 in both colours (R93). -/
@[simp] theorem lut_red (c : Bool) : laneByte (lut c) 0 = 255#8 := by cases c <;> rfl

/-- A is 255 in both colours (R93). -/
@[simp] theorem lut_alpha (c : Bool) : laneByte (lut c) 3 = 255#8 := by cases c <;> rfl

/-- G is 0 for a set bit and 255 for a clear one (R93). -/
@[simp] theorem lut_green (c : Bool) : laneByte (lut c) 1 = if c then 0#8 else 255#8 := by
  cases c <;> rfl

/-- B = G in both colours (R93). -/
@[simp] theorem lut_blue (c : Bool) : laneByte (lut c) 2 = if c then 0#8 else 255#8 := by
  cases c <;> rfl

/-- A word is its four bytes. -/
theorem lanes_append (p : Word) :
    laneByte p 3 ++ (laneByte p 2 ++ (laneByte p 1 ++ laneByte p 0)) = p := by
  apply BitVec.eq_of_getLsbD_eq
  intro i hi
  simp only [laneByte, BitVec.getLsbD_append, BitVec.getLsbD_extractLsb']
  by_cases h3 : i < 8 + (8 + 8)
  · by_cases h2 : i < 8 + 8
    · by_cases h1 : i < 8
      · simp only [if_pos h3, if_pos h2, h1, ↓reduceIte, decide_true, Bool.true_and,
          Nat.mul_zero, Nat.zero_add]
      · simp only [if_pos h3, if_pos h2, if_neg h1, show i - 8 < 8 by omega, decide_true,
          Bool.true_and, show 8 * 1 + (i - 8) = i by omega]
    · simp only [if_pos h3, if_neg h2, show i - (8 + 8) < 8 by omega, decide_true, Bool.true_and,
        show 8 * 2 + (i - (8 + 8)) = i by omega]
  · simp only [if_neg h3, show i - (8 + (8 + 8)) < 8 by omega, decide_true, Bool.true_and,
      show 8 * 3 + (i - (8 + (8 + 8))) = i by omega]

theorem bitWord_toNat (c : Bool) : (bitWord c).toNat = c.toNat := by cases c <;> rfl

/-! ### Buffers the host has not written -/

variable {s : State}

theorem unwritten_iff : s.unwritten = true ↔ s.pgTouched = [] ∧ s.rbTouched = [] := by
  simp [State.unwritten]

/-- BuffersOwned so far says in particular that the host has written neither buffer (R229). -/
theorem unwritten_of_owned (h : s.owned = true) : s.unwritten = true := (Bool.and_eq_true_iff.1 h).1

/-- With neither buffer written by the host, FETCH returns the PG byte (R121). -/
theorem fetch_unwritten (h : s.unwritten = true) (a : Nat) : s.fetch a = s.pgByte a := by
  simp [State.fetch, (unwritten_iff.1 h).1]

theorem fetchedBit_unwritten (h : s.unwritten = true) (i : Nat) : s.fetchedBit i = s.extract i := by
  simp [State.fetchedBit, State.extract, fetch_unwritten h]

/-- With neither buffer written by the host, STORE leaves the bytes of its word (R141). -/
theorem settled_unwritten (h : s.unwritten = true) (a n : Nat) (p : Word) :
    s.settled a n p = laneByte p n := by
  simp [State.settled, (unwritten_iff.1 h).2]

end Sys2Proof.Machine
end

