-- ==== Sys2Proof/Laws/PerInstr.lean ====
section
/-! SUPPORT. What holds of every command as syntax, one lemma for each constructor. -/

namespace Sys2Proof.Laws

/-- The opcode of a command (30_encoding.md R97). -/
def opcodeOf : Instr → BitVec 4
  | .nop => 0
  | .unpk => 1
  | .btst _ _ => 2
  | .abrt => 3

/-- The bit index operand of a command, 0 where it has none (R95). -/
def operandK : Instr → Byte
  | .btst _ k => k
  | .nop => 0
  | .unpk => 0
  | .abrt => 0

/-- The byte operand of a command, 0 where it has none (R95). -/
def operandB : Instr → Byte
  | .btst b _ => b
  | .nop => 0
  | .unpk => 0
  | .abrt => 0

/-- The fields of a command's word are its opcode, 0, and its operands, and the word meets the
constraint of its row (R95, R97). -/
def EncodingFields.Statement (i : Instr) : Prop :=
  i.wellFormed = true ∧ opField (encode i) = opcodeOf i ∧ zeroField (encode i) = 0#12 ∧
    kField (encode i) = operandK i ∧ bField (encode i) = operandB i

theorem EncodingFields.nop : EncodingFields.Statement .nop := by
  simp [EncodingFields.Statement, Instr.wellFormed, wellFormedWord, encode, opcodeOf, operandK,
    operandB]

theorem EncodingFields.unpk : EncodingFields.Statement .unpk := by
  simp [EncodingFields.Statement, Instr.wellFormed, wellFormedWord, encode, opcodeOf, operandK,
    operandB]

theorem EncodingFields.btst (b k : Byte) : EncodingFields.Statement (.btst b k) := by
  simp [EncodingFields.Statement, Instr.wellFormed, wellFormedWord, encode, opcodeOf, operandK,
    operandB]

theorem EncodingFields.abrt : EncodingFields.Statement .abrt := by
  simp [EncodingFields.Statement, Instr.wellFormed, wellFormedWord, encode, opcodeOf, operandK,
    operandB]

end Sys2Proof.Laws
end

