-- ==== Sys2Proof/Laws/Step.lean ====
section
/-! SUPPORT. What each operation can do when it answers a next state, said once: the cell step, the
engine's step, a command, a host access, and any transition of the system. -/

namespace Sys2Proof.Machine

variable {s t : State}

/-! ### One next state for each kind of transition -/

/-- Every way a transition can end in a next state `t` from `s`, the agenda already moved on; `m` is
the move that was taken, `none` when the agenda was empty. -/
inductive Transition (m : Option HostMove) (s : State) : State → Prop where
  /-- Nothing changes. -/
  | stay : Transition m s s
  /-- A cell step inside all bounds (R163). -/
  | cell (hm : m = none ∨ m = some .engine ∨ m = some .wait) (hr : s.runState = .run)
      (hi : s.cellIdx < s.nlim)
      (ha : splitByte s.cellIdx.toNat < s.pgLen.toNat) (hp : splitByte s.cellIdx.toNat < s.pg.size)
      (hb : pixelOffset s.cellIdx.toNat + 3 < s.cfg.rbytes)
      (hq : pixelOffset s.cellIdx.toNat + 3 < s.rb.size) : Transition m s s.processCell
  /-- A cell step stopped by a bounds check (R194). -/
  | bounds (hm : m = none ∨ m = some .engine ∨ m = some .wait) (hr : s.runState = .run)
      (hi : s.cellIdx < s.nlim)
      (h : ¬ splitByte s.cellIdx.toNat < s.pgLen.toNat ∨
        ¬ pixelOffset s.cellIdx.toNat + 3 < s.cfg.rbytes) :
      Transition m s (s.raise .boundsFault s.cellIdx)
  /-- The completion step (R164). -/
  | complete (hm : m = none ∨ m = some .engine ∨ m = some .wait) (hr : s.runState = .run)
      (hi : s.cellIdx = s.nlim) : Transition m s (s.setRunState .done)
  /-- UNPK accepted (R162). -/
  | start (w : Word) (hm : m = some (.csrWrite 0 w)) (hd : decode w = .command .unpk)
      (hr : s.runState = .idle ∨ s.runState = .done) : Transition m s s.startRun
  /-- UNPK while BUSY (R193). -/
  | busy (w : Word) (hm : m = some (.csrWrite 0 w)) (hd : decode w = .command .unpk)
      (hr : s.runState = .run) : Transition m s (s.raise .busyFault (encode .unpk))
  /-- An ILLEGAL word (R191). -/
  | illegal (w : Word) (why : Illegal) (hm : m = some (.csrWrite 0 w))
      (hd : decode w = .illegal why) (hr : s.runState ≠ .fault) :
      Transition m s (s.raise .illegalCommand w)
  /-- BTST out of range (R192). -/
  | range (w : Word) (b k : Byte) (hm : m = some (.csrWrite 0 w))
      (hd : decode w = .command (.btst b k)) (hk : 7 < k.toNat) (hr : s.runState ≠ .fault) :
      Transition m s (s.raise .rangeFault (encode (.btst b k)))
  /-- BTST in range (R124). -/
  | bit (w : Word) (b k : Byte) (hm : m = some (.csrWrite 0 w))
      (hd : decode w = .command (.btst b k)) (hk : ¬ 7 < k.toNat) (hr : s.runState ≠ .fault) :
      Transition m s (s.setResult (testBit b k.toNat))
  /-- ABRT in RUN or DONE (R165). -/
  | abort (w : Word) (hm : m = some (.csrWrite 0 w)) (hd : decode w = .command .abrt)
      (hr : s.runState = .run ∨ s.runState = .done) : Transition m s (s.setRunState .idle)
  /-- PG_LEN written when not BUSY (R35). -/
  | setLen (v : Word) (hm : m = some (.csrWrite 2 v))
      (hr : s.runState = .idle ∨ s.runState = .done) : Transition m s (s.setPgLen v)
  /-- Reset (R220). -/
  | reset (hm : m = some .reset) : Transition m s s.fireReset
  /-- A CSR or PG read (R166, R70). -/
  | read (r : HostRead) (hm : (∃ n, m = some (.csrRead n)) ∨ ∃ o, m = some (.pgRead o)) :
      Transition m s (s.logRead r)
  /-- An RB read (R60; HZ2 while BUSY). -/
  | readRb (r : HostRead) (hm : (∃ o, m = some (.rbRead o)) ∨ ∃ e i, m = some (.rbReadPixel e i)) :
      Transition m s (s.logRead r).noteRbRead
  /-- Another buffer behind the PG port. -/
  | placePg (bs : List Byte) (hm : m = some (.pgPlace bs)) (hr : s.runState ≠ .run) :
      Transition m s (s.setPg (Buffer.ofBytes bs))
  /-- A PG byte written when not BUSY. -/
  | writePg (o : Nat) (v : Byte) (hm : m = some (.pgWrite o v)) (hr : s.runState ≠ .run)
      (ho : o < s.pg.size) : Transition m s (s.setPg (s.pg.write o v))
  /-- A PG byte written while BUSY (HZ1). -/
  | contendPg (o : Nat) (v : Byte) (hm : m = some (.pgWrite o v)) (hr : s.runState = .run)
      (ho : o < s.pg.size) : Transition m s ((s.setPg (s.pg.write o v)).touchPg o)
  /-- Another buffer behind the RB port. -/
  | placeRb (bs : List Byte) (hm : m = some (.rbPlace bs)) (hr : s.runState ≠ .run) :
      Transition m s (s.setRb (Buffer.ofBytes bs))
  /-- An RB byte written when not BUSY. -/
  | writeRb (o : Nat) (v : Byte) (hm : m = some (.rbWrite o v)) (hr : s.runState ≠ .run)
      (ho : o < s.rb.size) : Transition m s (s.setRb (s.rb.write o v))
  /-- An RB byte written while BUSY (HZ2). -/
  | contendRb (o : Nat) (v : Byte) (hm : m = some (.rbWrite o v)) (hr : s.runState = .run)
      (ho : o < s.rb.size) : Transition m s (s.contendedWrite o v)

/-! ### Inversion, operation by operation -/

theorem Outcome.next_inj {a b : State}
    (h : (Host.Outcome.next a : Result) = .next b) : b = a := by cases h; rfl

/-- What the engine's step can do. -/
theorem engineStep_transition {m : Option HostMove}
    (hm : m = none ∨ m = some .engine ∨ m = some .wait) (h : engineStep s = .next t) :
    Transition m s t := by
  unfold engineStep at h
  split at h
  · rename_i hr
    split at h
    · rename_i hi
      unfold cellStep at h
      split at h
      · rename_i ha
        exact Outcome.next_inj h ▸ .bounds hm hr hi (.inl ha)
      · rename_i ha
        split at h
        · cases h
        · rename_i hp
          split at h
          · rename_i hb
            exact Outcome.next_inj h ▸ .bounds hm hr hi (.inr hb)
          · rename_i hb
            split at h
            · cases h
            · rename_i hq
              exact Outcome.next_inj h ▸
                .cell hm hr hi (not_not.1 ha) (not_not.1 hp) (not_not.1 hb) (not_not.1 hq)
    · split at h
      · rename_i hi
        exact Outcome.next_inj h ▸ .complete hm hr hi
      · exact Outcome.next_inj h ▸ .stay
  · exact Outcome.next_inj h ▸ .stay

/-- What a CMD write can do (R160). -/
theorem command_transition {w : Word} (h : command w s = .next t) :
    Transition (some (.csrWrite 0 w)) s t := by
  unfold command at h
  split at h
  · rename_i i hd
    cases i with
    | nop => exact Outcome.next_inj h ▸ .stay
    | unpk =>
      simp only [exec, execUnpk] at h
      split at h
      · exact Outcome.next_inj h ▸ .stay
      · rename_i hr
        exact Outcome.next_inj h ▸ .busy w rfl hd hr
      · rename_i hr
        exact Outcome.next_inj h ▸ .start w rfl hd (.inl hr)
      · rename_i hr
        exact Outcome.next_inj h ▸ .start w rfl hd (.inr hr)
    | btst b k =>
      simp only [exec, execBtst] at h
      split at h
      · exact Outcome.next_inj h ▸ .stay
      · rename_i hr
        split at h
        · rename_i hk
          exact Outcome.next_inj h ▸ .range w b k rfl hd hk hr
        · rename_i hk
          exact Outcome.next_inj h ▸ .bit w b k rfl hd hk hr
    | abrt =>
      simp only [exec, execAbrt] at h
      split at h
      · exact Outcome.next_inj h ▸ .stay
      · exact Outcome.next_inj h ▸ .stay
      · rename_i hr
        exact Outcome.next_inj h ▸ .abort w rfl hd (.inl hr)
      · rename_i hr
        exact Outcome.next_inj h ▸ .abort w rfl hd (.inr hr)
  · rename_i why hd
    split at h
    · exact Outcome.next_inj h ▸ .stay
    · rename_i hr
      exact Outcome.next_inj h ▸ .illegal w why rfl hd hr

/-- What a CSR write can do (R167). -/
theorem csrWrite_transition {n : BitVec 4} {v : Word} (h : csrWrite n v s = .next t) :
    Transition (some (.csrWrite n v)) s t := by
  unfold csrWrite at h
  split at h
  · rename_i hn
    obtain rfl : n = 0 := BitVec.eq_of_toNat_eq hn
    exact command_transition h
  · rename_i hn
    obtain rfl : n = 2 := BitVec.eq_of_toNat_eq hn
    unfold writePgLen at h
    split at h
    · rename_i hr
      exact Outcome.next_inj h ▸ .setLen v rfl (.inl hr)
    · rename_i hr
      exact Outcome.next_inj h ▸ .setLen v rfl (.inr hr)
    · exact Outcome.next_inj h ▸ .stay
    · exact Outcome.next_inj h ▸ .stay
  · exact Outcome.next_inj h ▸ .stay

/-- What a host access to PG or RB can do. -/
theorem pgPlace_transition {bs : List Byte} (h : pgPlace bs s = .next t) :
    Transition (some (.pgPlace bs)) s t := by
  unfold pgPlace at h
  split at h
  · cases h
  · rename_i hr
    split at h
    · cases h
    · exact Outcome.next_inj h ▸ .placePg bs rfl hr

theorem rbPlace_transition {bs : List Byte} (h : rbPlace bs s = .next t) :
    Transition (some (.rbPlace bs)) s t := by
  unfold rbPlace at h
  split at h
  · cases h
  · rename_i hr
    split at h
    · cases h
    · exact Outcome.next_inj h ▸ .placeRb bs rfl hr

theorem pgRead_transition {o : Nat} (h : pgRead o s = .next t) :
    Transition (some (.pgRead o)) s t := by
  unfold pgRead at h
  split at h
  · cases h
  · split at h
    · cases h
    · exact Outcome.next_inj h ▸ .read _ (.inr ⟨o, rfl⟩)

theorem pgWrite_transition {o : Nat} {v : Byte} (h : pgWrite o v s = .next t) :
    Transition (some (.pgWrite o v)) s t := by
  unfold pgWrite at h
  split at h
  · cases h
  · split at h
    · cases h
    · rename_i ho
      split at h
      · rename_i hr
        exact Outcome.next_inj h ▸ .contendPg o v rfl hr (not_not.1 ho)
      · rename_i hr
        exact Outcome.next_inj h ▸ .writePg o v rfl hr (not_not.1 ho)

theorem rbRead_transition {o : Nat} (h : rbRead o s = .next t) :
    Transition (some (.rbRead o)) s t := by
  unfold rbRead at h
  split at h
  · cases h
  · split at h
    · cases h
    · exact Outcome.next_inj h ▸ .readRb _ (.inl ⟨o, rfl⟩)

theorem rbReadPixel_transition {e : ByteOrder} {i : Nat} (h : rbReadPixel e i s = .next t) :
    Transition (some (.rbReadPixel e i)) s t := by
  unfold rbReadPixel at h
  split at h
  · cases h
  · split at h
    · cases h
    · exact Outcome.next_inj h ▸ .readRb _ (.inr ⟨e, i, rfl⟩)

theorem rbWrite_transition {o : Nat} {v : Byte} (h : rbWrite o v s = .next t) :
    Transition (some (.rbWrite o v)) s t := by
  unfold rbWrite at h
  split at h
  · cases h
  · split at h
    · cases h
    · rename_i ho
      split at h
      · rename_i hr
        exact Outcome.next_inj h ▸ .contendRb o v rfl hr (not_not.1 ho)
      · rename_i hr
        exact Outcome.next_inj h ▸ .writeRb o v rfl hr (not_not.1 ho)

/-- What one move can do: a transition, the agenda moved on or, while waiting, as it was. -/
theorem takeMove_transition {m : HostMove} {rest : List HostMove} (hs : s.agenda = m :: rest)
    (h : takeMove m rest s = .next t) :
    ∃ l, (l = rest ∨ l = s.agenda) ∧ Transition (some m) (s.setAgenda l) t := by
  cases m with
  | wait =>
    simp only [takeMove] at h
    split at h
    · exact ⟨s.agenda, .inr rfl, by
        simpa using engineStep_transition (m := some .wait) (.inr (.inr rfl)) h⟩
    · exact ⟨rest, .inl rfl, Outcome.next_inj h ▸ .stay⟩
  | engine => exact ⟨rest, .inl rfl, engineStep_transition (.inr (.inl rfl)) h⟩
  | reset => exact ⟨rest, .inl rfl, Outcome.next_inj h ▸ .reset rfl⟩
  | csrRead n => exact ⟨rest, .inl rfl, Outcome.next_inj h ▸ .read _ (.inl ⟨n, rfl⟩)⟩
  | csrWrite n v => exact ⟨rest, .inl rfl, csrWrite_transition h⟩
  | pgPlace bs => exact ⟨rest, .inl rfl, pgPlace_transition h⟩
  | pgRead o => exact ⟨rest, .inl rfl, pgRead_transition h⟩
  | pgWrite o v => exact ⟨rest, .inl rfl, pgWrite_transition h⟩
  | rbPlace bs => exact ⟨rest, .inl rfl, rbPlace_transition h⟩
  | rbRead o => exact ⟨rest, .inl rfl, rbRead_transition h⟩
  | rbReadPixel e i => exact ⟨rest, .inl rfl, rbReadPixel_transition h⟩
  | rbWrite o v => exact ⟨rest, .inl rfl, rbWrite_transition h⟩

/-- What one step can do, from any state (R171). -/
theorem step_transition (h : step s = .next t) :
    ∃ l, Transition s.agenda.head? (s.setAgenda l) t := by
  unfold step systemStep at h
  split at h
  · rename_i hs
    exact ⟨s.agenda, by rw [State.setAgenda_self, hs]; exact engineStep_transition (.inl rfl) h⟩
  · rename_i m rest hs
    obtain ⟨l, -, ht⟩ := takeMove_transition hs h
    exact ⟨l, by simpa [hs] using ht⟩

/-! ### The step, move by move -/

theorem step_idle_agenda (h : s.agenda = []) : step s = engineStep s := by
  simp [step, systemStep, h]

theorem step_move {m : HostMove} {rest : List HostMove} (h : s.agenda = m :: rest) :
    step s = takeMove m rest s := by
  simp [step, systemStep, h]

/-! ### The cell step -/

/-- Inside the bounds and with both buffers backed, the engine processes the cell (R163). -/
theorem engineStep_cell (hr : s.runState = .run) (hi : s.cellIdx < s.nlim)
    (ha : splitByte s.cellIdx.toNat < s.pgLen.toNat) (hp : splitByte s.cellIdx.toNat < s.pg.size)
    (hb : pixelOffset s.cellIdx.toNat + 3 < s.cfg.rbytes)
    (hq : pixelOffset s.cellIdx.toNat + 3 < s.rb.size) : engineStep s = .next s.processCell := by
  simp [engineStep, cellStep, *]

/-- Outside either bound the engine raises BoundsFault: outside PG_LEN at once, outside the raster
once the PG byte is really there (R194). -/
theorem engineStep_bounds (hr : s.runState = .run) (hi : s.cellIdx < s.nlim)
    (h : ¬ splitByte s.cellIdx.toNat < s.pgLen.toNat ∨
      (splitByte s.cellIdx.toNat < s.pg.size ∧
        ¬ pixelOffset s.cellIdx.toNat + 3 < s.cfg.rbytes)) :
    engineStep s = .next (s.raise .boundsFault s.cellIdx) := by
  by_cases ha : splitByte s.cellIdx.toNat < s.pgLen.toNat
  · obtain ⟨hp, hb⟩ := h.resolve_left (not_not.2 ha)
    simp [engineStep, cellStep, hr, hi, ha, hp, hb]
  · simp [engineStep, cellStep, hr, hi, ha]

/-- A PG byte below PG_LEN that is not really there is refused (HZ3, U5). -/
theorem engineStep_pgNotBacked (hr : s.runState = .run) (hi : s.cellIdx < s.nlim)
    (ha : splitByte s.cellIdx.toNat < s.pgLen.toNat)
    (hp : ¬ splitByte s.cellIdx.toNat < s.pg.size) : engineStep s = .refused .pgNotBacked := by
  simp [engineStep, cellStep, hr, hi, ha, hp]

/-- A raster quadruple of the board that is not really there is refused (HZ4, U5). -/
theorem engineStep_rbNotBacked (hr : s.runState = .run) (hi : s.cellIdx < s.nlim)
    (ha : splitByte s.cellIdx.toNat < s.pgLen.toNat) (hp : splitByte s.cellIdx.toNat < s.pg.size)
    (hb : pixelOffset s.cellIdx.toNat + 3 < s.cfg.rbytes)
    (hq : ¬ pixelOffset s.cellIdx.toNat + 3 < s.rb.size) :
    engineStep s = .refused .rbNotBacked := by
  simp [engineStep, cellStep, hr, hi, ha, hp, hb, hq]

/-- At the run limit the engine completes (R164). -/
theorem engineStep_complete (hr : s.runState = .run) (hi : s.cellIdx = s.nlim) :
    engineStep s = .next (s.setRunState .done) := by
  simp [engineStep, hr, hi]

/-- Outside RUN the engine has no step (R21). -/
theorem engineStep_not_run (hr : s.runState ≠ .run) : engineStep s = .next s := by
  simp [engineStep, hr]

/-- The four bytes of the cell a cell step processes. -/
theorem processCell_byte (s : State) {n : Nat} (hn : n < 4) :
    s.processCell.rb.rbByte (pixelOffset s.cellIdx.toNat + n) =
      s.settled (pixelOffset s.cellIdx.toNat) n (lut (s.fetchedBit s.cellIdx.toNat)) :=
  memWriteRb_byte s _ _ hn

/-- A cell step leaves every other raster byte alone (R145). -/
theorem processCell_other (s : State) {x : Nat}
    (h : x < pixelOffset s.cellIdx.toNat ∨ pixelOffset s.cellIdx.toNat + 4 ≤ x) :
    s.processCell.rb.rbByte x = s.rb.rbByte x :=
  memWriteRb_other s _ _ h

/-- With neither buffer written by the host, a cell step writes the cell's colour (R144). -/
theorem processCell_byte_unwritten (ho : s.unwritten = true) {n : Nat} (hn : n < 4) :
    s.processCell.rb.rbByte (pixelOffset s.cellIdx.toNat + n) =
      laneByte (lut (s.extract s.cellIdx.toNat)) n := by
  rw [processCell_byte s hn, settled_unwritten ho, fetchedBit_unwritten ho]

end Sys2Proof.Machine
end

