-- ==== Sys2Proof/Laws/Run.lean ====
section
/-! SUPPORT. Runs of k transitions, one transition at a time, and what `onNext` does. -/

namespace Sys2Proof.Machine

variable {s t : State}

@[simp] theorem runFor_zero (s : State) : s.runFor 0 = .next s := rfl

theorem runFor_succ (k : Nat) (h : step s = .next t) : s.runFor (k + 1) = t.runFor k := by
  have hc : Sys2Proof.core.step s = .next t := h
  simp only [State.runFor, Host.Core.run, hc]
  rfl

/-- Where a step stops, no longer run has a next state. -/
theorem runFor_stop (k : Nat) (h : ∀ t, step s ≠ .next t) : ∀ v, s.runFor (k + 1) ≠ .next v := by
  intro v hv
  simp only [State.runFor, Host.Core.run, Sys2Proof.core] at hv
  split at hv
  · rename_i e
    exact h _ e
  · cases hv
  · cases hv

/-- A transition leaves the agenda as it found it: only taking the move shortens it. -/
theorem transition_agenda {m : Option HostMove} (tr : Transition m s t) : t.agenda = s.agenda := by
  cases tr <;> rfl

/-- After a move that is no turn of the engine the moves behind it are next. -/
theorem takeMove_agenda {m : HostMove} {rest : List HostMove} (hm : m.isEngineTurn = false)
    (h : takeMove m rest s = .next t) : t.agenda = rest := by
  cases m with
  | wait => cases hm
  | engine => cases hm
  | reset => cases h; rfl
  | csrRead n => cases h; rfl
  | csrWrite n v => exact transition_agenda (csrWrite_transition h)
  | pgPlace bs => exact transition_agenda (pgPlace_transition h)
  | pgRead o => exact transition_agenda (pgRead_transition h)
  | pgWrite o v => exact transition_agenda (pgWrite_transition h)
  | rbPlace bs => exact transition_agenda (rbPlace_transition h)
  | rbRead o => exact transition_agenda (rbRead_transition h)
  | rbReadPixel e i => exact transition_agenda (rbReadPixel_transition h)
  | rbWrite o v => exact transition_agenda (rbWrite_transition h)

/-- A run that goes on after one transition is a run from there. -/
theorem inRun_succ {k : Nat} {u : State} (hr : s.runState = .run) (h : step s = .next t)
    (hu : t.InRun k u) : s.InRun (k + 1) u := by
  refine ⟨by rw [runFor_succ k h]; exact hu.1, fun j hj v hv => ?_⟩
  cases j with
  | zero => cases hv; exact hr
  | succ j => exact hu.2 j (by omega) v (by rwa [runFor_succ j h] at hv)

@[simp] theorem onNext_next (f : State → State) (s : State) :
    onNext f (.next s) = .next (f s) := rfl

@[simp] theorem onNext_fault (f : State → State) (r : Fault) :
    onNext f (.fault r) = .fault r := rfl

@[simp] theorem onNext_refused (f : State → State) (r : Refusal) :
    onNext f (.refused r) = .refused r := rfl

end Sys2Proof.Machine
end

