-- ==== Sys2Proof/Laws/Views.lean ====
section
/-! SUPPORT. The fields of a state seen through the maps that compare two runs. -/

namespace Sys2Proof.Machine

namespace State

variable (s : State)

/-! ### reshape -/

@[simp] theorem reshape_cfg (c : Config) : (s.reshape c).cfg = c := rfl
@[simp] theorem reshape_runState (c : Config) : (s.reshape c).runState = s.runState := rfl
@[simp] theorem reshape_cellIdx (c : Config) : (s.reshape c).cellIdx = s.cellIdx := rfl
@[simp] theorem reshape_cnt (c : Config) : (s.reshape c).cnt = s.cnt := rfl
@[simp] theorem reshape_nlim (c : Config) : (s.reshape c).nlim = s.nlim := rfl
@[simp] theorem reshape_pgLen (c : Config) : (s.reshape c).pgLen = s.pgLen := rfl
@[simp] theorem reshape_short (c : Config) : (s.reshape c).short = s.short := rfl
@[simp] theorem reshape_long (c : Config) : (s.reshape c).long = s.long := rfl
@[simp] theorem reshape_result (c : Config) : (s.reshape c).result = s.result := rfl
@[simp] theorem reshape_cause (c : Config) : (s.reshape c).cause = s.cause := rfl
@[simp] theorem reshape_finfo (c : Config) : (s.reshape c).finfo = s.finfo := rfl
@[simp] theorem reshape_pg (c : Config) : (s.reshape c).pg = s.pg := rfl
@[simp] theorem reshape_rb (c : Config) : (s.reshape c).rb = s.rb := rfl
@[simp] theorem reshape_rbOld (c : Config) : (s.reshape c).rbOld = s.rbOld := rfl
@[simp] theorem reshape_pgTouched (c : Config) : (s.reshape c).pgTouched = s.pgTouched := rfl
@[simp] theorem reshape_rbTouched (c : Config) : (s.reshape c).rbTouched = s.rbTouched := rfl
@[simp] theorem reshape_rbPeeked (c : Config) : (s.reshape c).rbPeeked = s.rbPeeked := rfl
@[simp] theorem reshape_free (c : Config) : (s.reshape c).free = s.free := rfl
@[simp] theorem reshape_agenda (c : Config) : (s.reshape c).agenda = s.agenda := rfl
@[simp] theorem reshape_reads (c : Config) : (s.reshape c).reads = s.reads := rfl
@[simp] theorem reshape_pgByte (c : Config) (x : Nat) : (s.reshape c).pgByte x = s.pgByte x := rfl
@[simp] theorem reshape_extract (c : Config) (x : Nat) :
    (s.reshape c).extract x = s.extract x := rfl
@[simp] theorem reshape_unwritten (c : Config) : (s.reshape c).unwritten = s.unwritten := rfl
@[simp] theorem reshape_owned (c : Config) : (s.reshape c).owned = s.owned := rfl

/-! ### hideFlags -/

@[simp] theorem hideFlags_cfg : (s.hideFlags).cfg = s.cfg := rfl
@[simp] theorem hideFlags_runState : (s.hideFlags).runState = s.runState := rfl
@[simp] theorem hideFlags_cellIdx : (s.hideFlags).cellIdx = s.cellIdx := rfl
@[simp] theorem hideFlags_cnt : (s.hideFlags).cnt = 0 := rfl
@[simp] theorem hideFlags_nlim : (s.hideFlags).nlim = s.nlim := rfl
@[simp] theorem hideFlags_pgLen : (s.hideFlags).pgLen = s.pgLen := rfl
@[simp] theorem hideFlags_short : (s.hideFlags).short = false := rfl
@[simp] theorem hideFlags_long : (s.hideFlags).long = false := rfl
@[simp] theorem hideFlags_result : (s.hideFlags).result = false := rfl
@[simp] theorem hideFlags_cause : (s.hideFlags).cause = s.cause := rfl
@[simp] theorem hideFlags_finfo : (s.hideFlags).finfo = s.finfo := rfl
@[simp] theorem hideFlags_pg : (s.hideFlags).pg = s.pg := rfl
@[simp] theorem hideFlags_rb : (s.hideFlags).rb = s.rb := rfl
@[simp] theorem hideFlags_rbOld : (s.hideFlags).rbOld = s.rbOld := rfl
@[simp] theorem hideFlags_pgTouched : (s.hideFlags).pgTouched = s.pgTouched := rfl
@[simp] theorem hideFlags_rbTouched : (s.hideFlags).rbTouched = s.rbTouched := rfl
@[simp] theorem hideFlags_rbPeeked : (s.hideFlags).rbPeeked = s.rbPeeked := rfl
@[simp] theorem hideFlags_free : (s.hideFlags).free = s.free := rfl
@[simp] theorem hideFlags_agenda : (s.hideFlags).agenda = s.agenda := rfl
@[simp] theorem hideFlags_reads : (s.hideFlags).reads = s.reads := rfl
@[simp] theorem hideFlags_pgByte (x : Nat) : (s.hideFlags).pgByte x = s.pgByte x := rfl
@[simp] theorem hideFlags_extract (x : Nat) : (s.hideFlags).extract x = s.extract x := rfl
@[simp] theorem hideFlags_unwritten : (s.hideFlags).unwritten = s.unwritten := rfl
@[simp] theorem hideFlags_owned : (s.hideFlags).owned = s.owned := rfl

/-! ### hideRaster -/

@[simp] theorem hideRaster_cfg : (s.hideRaster).cfg = s.cfg := rfl
@[simp] theorem hideRaster_runState : (s.hideRaster).runState = s.runState := rfl
@[simp] theorem hideRaster_cellIdx : (s.hideRaster).cellIdx = s.cellIdx := rfl
@[simp] theorem hideRaster_cnt : (s.hideRaster).cnt = s.cnt := rfl
@[simp] theorem hideRaster_nlim : (s.hideRaster).nlim = s.nlim := rfl
@[simp] theorem hideRaster_pgLen : (s.hideRaster).pgLen = s.pgLen := rfl
@[simp] theorem hideRaster_short : (s.hideRaster).short = s.short := rfl
@[simp] theorem hideRaster_long : (s.hideRaster).long = s.long := rfl
@[simp] theorem hideRaster_result : (s.hideRaster).result = s.result := rfl
@[simp] theorem hideRaster_cause : (s.hideRaster).cause = s.cause := rfl
@[simp] theorem hideRaster_finfo : (s.hideRaster).finfo = s.finfo := rfl
@[simp] theorem hideRaster_pg : (s.hideRaster).pg = s.pg := rfl
@[simp] theorem hideRaster_rb : (s.hideRaster).rb = { s.rb with cells := [] } := rfl
@[simp] theorem hideRaster_rbOld : (s.hideRaster).rbOld = { s.rbOld with cells := [] } := rfl
@[simp] theorem hideRaster_pgTouched : (s.hideRaster).pgTouched = s.pgTouched := rfl
@[simp] theorem hideRaster_rbTouched : (s.hideRaster).rbTouched = s.rbTouched := rfl
@[simp] theorem hideRaster_rbPeeked : (s.hideRaster).rbPeeked = s.rbPeeked := rfl
@[simp] theorem hideRaster_free : (s.hideRaster).free = s.free := rfl
@[simp] theorem hideRaster_agenda : (s.hideRaster).agenda = s.agenda := rfl
@[simp] theorem hideRaster_reads : (s.hideRaster).reads = s.reads := rfl
@[simp] theorem hideRaster_pgByte (x : Nat) : (s.hideRaster).pgByte x = s.pgByte x := rfl
@[simp] theorem hideRaster_extract (x : Nat) : (s.hideRaster).extract x = s.extract x := rfl
@[simp] theorem hideRaster_unwritten : (s.hideRaster).unwritten = s.unwritten := rfl
@[simp] theorem hideRaster_owned : (s.hideRaster).owned = s.owned := rfl

end State

end Sys2Proof.Machine
end

