-- ==== Sys2Proof/Tests/Slice0.lean ====
section
/-! SUPPORT. Tests of the model against words and vectors of the spec (30_encoding.md,
95_test_vectors.md), the ill-formed terms the checks refuse, and, for each statement that has
hypotheses, a theorem that shows a concrete state meeting them. -/

namespace Sys2Proof.Tests

open Sys2Proof.Machine

/-! ### Small states -/

/-- The scenario S6: an 8 x 1 board, PG = [0x05], PG_LEN = 1, 32 raster bytes nothing has written. -/
def ready : State :=
  { State.reset with
    cfg := ⟨8, 1⟩, pgLen := 1, pg := Buffer.ofBytes [0x05#8], rb := ⟨32, []⟩, rbOld := ⟨32, []⟩ }

/-- `ready` right after UNPK, as R162 says. -/
def running : State := { ready with runState := .run, nlim := 8 }

/-- `running` after two cell steps (T-CELL-3's state before). -/
def midway : State :=
  { running with
    cellIdx := 2, cnt := 1
    rb := ⟨32, [(0, 0xFF#8), (1, 0x00#8), (2, 0x00#8), (3, 0xFF#8),
                (4, 0xFF#8), (5, 0xFF#8), (6, 0xFF#8), (7, 0xFF#8)]⟩ }

/-- `running` with every cell processed (T-CELL-5's state before; the raster is left out). -/
def finished : State := { running with cellIdx := 8, cnt := 2 }

/-- One painted pixel, then an abort. -/
def aborted : State :=
  { running with
    runState := .idle, cellIdx := 1, cnt := 1
    rb := ⟨32, [(0, 0xFF#8), (1, 0x00#8), (2, 0x00#8), (3, 0xFF#8)]⟩ }

/-- A block that has raised BusyFault (T-SEQ-6). -/
def faulted : State := { midway with runState := .fault, cause := 3, finfo := 0x10000000#32 }

/-- A board of one cell, PG = [0x01]. -/
def single : State :=
  { ready with cfg := ⟨1, 1⟩, pg := Buffer.ofBytes [0x01#8], rb := ⟨4, []⟩, rbOld := ⟨4, []⟩ }

/-- The next state of an outcome, if it is one. -/
def state? : Result → Option State
  | .next s => some s
  | .fault _ => none
  | .refused _ => none

/-- What a test looks at in the next state. -/
def see {α : Type} (f : State → α) (r : Result) : Option α := (state? r).map f

/-! ### Decoding (R95 to R102) -/

/-- R97: the word of NOP, fields op, zero, k, b. -/
theorem test_decode_nop : decode 0b0000_000000000000_00000000_00000000#32 = .command .nop := by
  decide

/-- R97: the word of UNPK. -/
theorem test_decode_unpk : decode 0b0001_000000000000_00000000_00000000#32 = .command .unpk := by
  decide

/-- R102: `BTST 0x05, 2`; the byte is the low field. -/
theorem test_decode_btst :
    decode 0b0010_000000000000_00000010_00000101#32 = .command (.btst 0x05#8 0x02#8) := by decide

/-- R100: a BTST word with k > 7 is legal for the decoder. -/
theorem test_decode_btst_out_of_range :
    decode 0b0010_000000000000_11111111_11111111#32 = .command (.btst 0xFF#8 0xFF#8) := by decide

/-- R97: the word of ABRT. -/
theorem test_decode_abrt : decode 0b0011_000000000000_00000000_00000000#32 = .command .abrt := by
  decide

/-- R98: the first and the last reserved opcode. -/
theorem test_decode_reserved_opcode :
    decode 0b0100_000000000000_00000000_00000000#32 = .illegal .reservedOpcode ∧
    decode 0b1111_111111111111_11111111_11111111#32 = .illegal .reservedOpcode := by decide

/-- R99: each must-be-zero field, at its lowest and highest bit. -/
theorem test_decode_reserved_bits :
    decode 0b0001_000000000000_00000000_00000001#32 = .illegal .reservedBits ∧
    decode 0b0000_000000000000_10000000_00000000#32 = .illegal .reservedBits ∧
    decode 0b0010_000000000001_00000000_11111111#32 = .illegal .reservedBits ∧
    decode 0b0011_100000000000_00000000_00000000#32 = .illegal .reservedBits := by decide

/-- R102: the encoding examples. -/
theorem test_encode_examples :
    encode (.btst 0x05#8 2#8) = 0x20000205#32 ∧ encode (.btst 0x80#8 7#8) = 0x20000780#32 ∧
    encode (.btst 0xFF#8 8#8) = 0x200008FF#32 ∧ encode .abrt = 0x30000000#32 := by decide

/-- opcode_table.json: a row's word through the table's numbering. -/
theorem test_table_word :
    decodeTableWord 32 0x20000205 = some (.btst 0x05#8 2#8) ∧ decodeTableWord 32 0x40000000 = none := by
  decide

/-! ### Ill-formed terms -/

/-- R6: a board without columns, one without rows, one beyond 2^30 cells; the largest is accepted. -/
theorem test_ill_formed_boards :
    Config.wellFormed ⟨0, 5⟩ = false ∧ Config.wellFormed ⟨5, 0⟩ = false ∧
    Config.wellFormed ⟨2 ^ 30 + 1, 1⟩ = false ∧ Config.wellFormed ⟨2 ^ 15, 2 ^ 15⟩ = true := by
  decide

/-- R97 to R99: a word with a reserved opcode, with a zero bit set, with an operand where a command has
none. -/
theorem test_ill_formed_words :
    wellFormedWord 0x40000000#32 = false ∧ wellFormedWord 0x20010000#32 = false ∧
    wellFormedWord 0x10000001#32 = false ∧ wellFormedWord 0x30000100#32 = false ∧
    wellFormedWord 0x2000FFFF#32 = true := by decide

/-! ### The commands -/

/-- R161: NOP during a run. -/
theorem test_nop_keeps_the_run : exec .nop midway = .next midway := rfl

/-- Program P2: 8 bits on a 4 x 4 board: NLIM = 8, STATUS = BUSY and SHORT. -/
theorem test_unpk_short :
    see (fun t => (t.nlim, csrValue t 1)) (exec .unpk { ready with cfg := ⟨4, 4⟩ }) =
      some (8#32, 0x00000009#32) := by decide

/-- T-UNPK-14: 8*PG_LEN is not truncated to 32 bits. -/
theorem test_unpk_long_exact :
    see (fun t => (t.nlim, csrValue t 1)) (exec .unpk { State.reset with pgLen := 0xFFFFFFFF#32 }) =
      some (1000000#32, 0x00000011#32) := by decide

/-- T-BTST-4: the top bit. -/
theorem test_btst_top_bit :
    see (fun t => csrValue t 8) (exec (.btst 0x80#8 7#8) ready) = some 1#32 := by decide

/-- T-BTST-15: the fault keeps RESULT and records the word. -/
theorem test_btst_range_fault :
    see (fun t => (csrValue t 8, csrValue t 1, csrValue t 9, csrValue t 10))
      (exec (.btst 0x01#8 9#8) { ready with result := true }) =
      some (1#32, 4#32, 2#32, 0x20000901#32) := by decide

/-- T-SEQ-5: ABRT in RUN keeps CELLIDX. -/
theorem test_abrt_in_run :
    see (fun t => (csrValue t 1, csrValue t 6, csrValue t 7)) (exec .abrt midway) =
      some (0#32, 2#32, 8#32) := by decide

/-- T-SEQ-4: ABRT clears DONE and keeps SETCOUNT. -/
theorem test_abrt_in_done :
    see (fun t => (csrValue t 1, csrValue t 5)) (exec .abrt { finished with runState := .done }) =
      some (0#32, 2#32) := by decide

/-! ### The engine, illegal words, reset values -/

/-- T-CELL-3: cell 2 of 0x05 is red. -/
theorem test_cell_step :
    see (fun t => (t.cellIdx, t.cnt, t.rb.rbByte 8, t.rb.rbByte 9, t.rb.rbByte 10, t.rb.rbByte 11))
      (step midway) = some (3#32, 2#32, 0xFF#8, 0x00#8, 0x00#8, 0xFF#8) := by decide

/-- T-CELL-5: the ninth engine step. -/
theorem test_completion_step :
    see (fun t => (csrValue t 1, t.cellIdx, t.cnt)) (step finished) = some (2#32, 8#32, 2#32) := by
  decide

/-- T-SEQ-8: an illegal word, as a CMD write. -/
theorem test_illegal_word :
    see (fun t => (csrValue t 1, csrValue t 9, csrValue t 10))
      (step (State.reset.withFetchWord 32 0x40000000)) = some (4#32, 1#32, 0x40000000#32) := by
  decide

/-- T-SEQ-1: what the CSRs read after reset. -/
theorem test_reset_reads :
    [0, 1, 2, 3, 4, 5, 6, 7, 8, 9, 10, 11, 12, 13].map (fun n => csrValue State.reset (BitVec.ofNat 4 n)) =
      [0, 0, 0, 0x3E8#32, 0x3E8#32, 0, 0, 0, 0, 0, 0, 0xFFFFFFFF#32, 0xFF0000FF#32, 0] := by decide

/-- R66: the bytes 11 22 33 44 read as a word, little-endian and byte-reversed; and red, "a byte
palindrome", which reads alike. -/
theorem test_pixel_byte_order :
    (let b : Buffer := ⟨8, [(0, 0x11#8), (1, 0x22#8), (2, 0x33#8), (3, 0x44#8),
                            (4, 0xFF#8), (5, 0x00#8), (6, 0x00#8), (7, 0xFF#8)]⟩
     (b.rbPixel .little 0, b.rbPixel .big 0, b.rbPixel .little 1, b.rbPixel .big 1)) =
      (0x44332211#32, 0x11223344#32, 0xFF0000FF#32, 0xFF0000FF#32) := by decide

/-- R229, HZ2: a read of RB during a run ends BuffersOwned; a read of PG or a CSR does not. -/
theorem test_raster_read_ends_ownership :
    (see State.owned (step (midway.setAgenda [.rbReadPixel .big 0])),
     see State.owned (step (midway.setAgenda [.rbRead 31])),
     see State.owned (step (midway.setAgenda [.pgRead 0])),
     see State.owned (step (midway.setAgenda [.csrRead 5]))) =
      (some false, some false, some true, some true) := by decide

/-! ### Invariants of the small states -/

theorem ready_inv : ready.Inv := by constructor <;> decide
theorem running_inv : running.Inv := by constructor <;> decide
theorem midway_inv : midway.Inv := by constructor <;> decide
theorem finished_inv : finished.Inv := by constructor <;> decide
theorem single_inv : single.Inv := by constructor <;> decide

theorem running_loopInv : running.LoopInv where
  pixels := fun _ h => absurd h (Nat.not_lt_zero _)
  rest := fun _ _ => rfl
  count := by decide

theorem aborted_loopInv : aborted.LoopInv where
  pixels := by
    intro j hj n hn
    have hj0 : j = 0 := by simpa [aborted] using hj
    subst hj0
    match n, hn with
    | 0, _ => decide
    | 1, _ => decide
    | 2, _ => decide
    | 3, _ => decide
  rest := by
    intro o ho
    have ho' : 4 ≤ o := by simpa [aborted, pixelOffset] using ho
    simp only [Buffer.rbByte, aborted, running, ready, Memory.read?]
    rw [if_neg (by omega), if_neg (by omega), if_neg (by omega), if_neg (by omega)]
  count := by decide

/-! ### Witnesses: the hypotheses of each statement are met -/

/-- A legal word and an illegal one. -/
theorem witness_LegalWordsAreExactlyTheEncodings :
    decode (encode (.btst 0xFF#8 0xFF#8)) = .command (.btst 0xFF#8 0xFF#8) ∧
    wellFormedWord 0x20010000#32 = false := by decide

/-- Opcode 2 and the first reserved opcode. -/
theorem witness_OpcodeRowsSelectTheCommand :
    decode 0x2000FFFF#32 = .command (.btst 0xFF#8 0xFF#8) ∧
    4#4 ≤ (0x40000000#32 : Word).extractLsb' 28 4 := by decide

/-- The last legal opcode with a bit too many, and the first reserved one. -/
theorem witness_ReservedWordsAreIllegal :
    4#4 ≤ (0x40000000#32 : Word).extractLsb' 28 4 ∧
    ((0x30000001#32 : Word).extractLsb' 28 4 < 4#4 ∧
      (0x30000001#32 : Word).extractLsb' 28 4 ≠ 2#4 ∧
      (0x30000001#32 : Word).extractLsb' 0 16 ≠ 0#16) ∧
    ((0x20010000#32 : Word).extractLsb' 28 4 < 4#4 ∧
      (0x20010000#32 : Word).extractLsb' 16 12 ≠ 0#12) := by decide

theorem witness_StepRunsTheDecodedCommand :
    (ready.setAgenda [.csrWrite 0 0x10000000#32]).agenda = .csrWrite 0 0x10000000#32 :: [] ∧
    decode 0x10000000#32 = .command .unpk := by decide

/-- Each of the three grounds, in IDLE and in RUN. -/
theorem witness_IllegalWordRaisesIllegalCommand :
    (ready.setAgenda [.csrWrite 0 0x40000000#32]).agenda = .csrWrite 0 0x40000000#32 :: [] ∧
    ready.runState ≠ .fault ∧ midway.runState ≠ .fault ∧
    4#4 ≤ (0x40000000#32 : Word).extractLsb' 28 4 ∧
    (0x20010000#32 : Word).extractLsb' 16 12 ≠ 0#12 ∧
    ((0x10000001#32 : Word).extractLsb' 28 4 ≠ 2#4 ∧
      (0x10000001#32 : Word).extractLsb' 0 16 ≠ 0#16) := by decide

theorem witness_TheScheduleChoosesWhoMoves :
    running.agenda = [] ∧ (running.setAgenda [.engine]).agenda = .engine :: [] ∧
    ((running.setAgenda [.wait]).agenda = .wait :: [] ∧ running.runState = .run) ∧
    ((ready.setAgenda [.wait]).agenda = .wait :: [] ∧ ready.runState ≠ .run) := by decide

theorem witness_UnpkStartsARun : ready.cfg.wellFormed = true ∧ ready.Ready :=
  ⟨by decide, .inl rfl⟩

theorem witness_UnpkWhileBusyRaisesBusyFault :
    midway.runState = .run ∧ ready.Ready ∧ exec .unpk ready = .next ready.startRun :=
  ⟨rfl, .inl rfl, rfl⟩

/-- The illegal word, FAULT, and the two sides of k = 7. -/
theorem witness_BtstWritesTheTestedBit :
    ((ready.setAgenda [.csrWrite 0 0x200100FF#32]).agenda = .csrWrite 0 0x200100FF#32 :: [] ∧
      (0x200100FF#32 : Word).extractLsb' 28 4 = 2#4 ∧
      (0x200100FF#32 : Word).extractLsb' 16 12 ≠ 0#12 ∧ ready.runState ≠ .fault) ∧
    faulted.runState = .fault ∧ (7#8 : Byte).toNat ≤ 7 ∧ 7 < (8#8 : Byte).toNat := by decide

theorem witness_AbrtReturnsToIdle :
    ((ready.setAgenda [.csrWrite 0 0x30000100#32]).agenda = .csrWrite 0 0x30000100#32 :: [] ∧
      (0x30000100#32 : Word).extractLsb' 28 4 = 3#4 ∧
      (0x30000100#32 : Word).extractLsb' 0 28 ≠ 0#28) ∧
    midway.runState = .run ∧ ready.runState = .idle ∧ faulted.runState = .fault := by decide

theorem witness_FaultStateIgnoresEveryWrite : faulted.runState = .fault := rfl

theorem witness_OnlyResetLeavesFault :
    faulted.runState = .fault ∧ faulted.agenda.head? ≠ some .reset ∧ step faulted = .next faulted :=
  ⟨rfl, by decide, rfl⟩

/-- A step that changes STATE. -/
theorem witness_RunStateFollowsTheDiagram :
    ∃ t, step finished = .next t ∧ t.runState ≠ finished.runState := ⟨_, rfl, by decide⟩

theorem witness_CellsAndCoordinatesCorrespond :
    Config.blobgrid.wellFormed = true ∧ 999999 < Config.blobgrid.ncells ∧
    999 < Config.blobgrid.width ∧ 999 < Config.blobgrid.height := by decide

theorem witness_CellStepPaintsOneCell :
    midway.Inv ∧ midway.runState = .run ∧ midway.cellIdx.toNat < midway.nlim.toNat ∧
    midway.LenHonest ∧ midway.RasterProvided ∧ midway.unwritten = true :=
  ⟨midway_inv, rfl, by decide, Nat.le_refl 1, Nat.le_refl 32, rfl⟩

theorem witness_CompletionStepSetsDone :
    (finished.runState = .run ∧ finished.cellIdx = finished.nlim) ∧
    (∃ t, engineStep finished = .next t ∧ t.runState = .done) ∧
    finished.Inv ∧ midway.Inv :=
  ⟨⟨rfl, rfl⟩, ⟨_, rfl, rfl⟩, finished_inv, midway_inv⟩

/-- One state for each way on. -/
theorem witness_RunningEngineAlwaysAdvances :
    (midway.Inv ∧ midway.runState = .run ∧ midway.LenHonest ∧ midway.RasterProvided) ∧
    (finished.Inv ∧ finished.runState = .run ∧ finished.LenHonest ∧ finished.RasterProvided) :=
  ⟨⟨midway_inv, rfl, Nat.le_refl 1, Nat.le_refl 32⟩,
   ⟨finished_inv, rfl, Nat.le_refl 1, Nat.le_refl 32⟩⟩

/-- PG_LEN = 0 under a running engine; and a board one cell short of I. -/
theorem witness_OutOfBoundsCellStepFaults :
    (({ midway with pgLen := 0 } : State).runState = .run ∧ midway.cellIdx < midway.nlim ∧
      ({ midway with pgLen := 0 } : State).pgLen.toNat ≤ midway.cellIdx.toNat / 8) ∧
    (midway.cellIdx.toNat / 8 < midway.pg.size ∧ 4 * (2 * 1) ≤ 4 * midway.cellIdx.toNat + 3) := by
  decide

theorem witness_NoStepRaisesBoundsFault :
    ∃ t, midway.Inv ∧ midway.cause ≠ 4 ∧ step midway = .next t := ⟨_, midway_inv, by decide, rfl⟩

/-- I advanced, and I cleared. -/
theorem witness_IndexIsOnlyClearedOrAdvanced :
    (∃ t, step midway = .next t ∧ t.cellIdx ≠ midway.cellIdx) ∧
    (∃ t, step (midway.setAgenda [.reset]) = .next t ∧ t.cellIdx ≠ midway.cellIdx) :=
  ⟨⟨_, rfl, by decide⟩, ⟨_, rfl, by decide⟩⟩

theorem witness_EveryStepKeepsTheInvariant : ∃ t, midway.Inv ∧ step midway = .next t :=
  ⟨_, midway_inv, rfl⟩

theorem witness_LimitEqualsBoardIffNotShort :
    (∃ t, ready.cfg.wellFormed = true ∧ ready.Ready ∧ exec .unpk ready = .next t) ∧
    (∃ t, midway.cfg.wellFormed = true ∧ midway.LimitMatchesShort ∧
      midway.agenda.head? ≠ some .reset ∧ step midway = .next t) :=
  ⟨⟨_, by decide, .inl rfl, rfl⟩,
   ⟨_, by decide, ⟨fun _ => rfl, fun _ => by decide⟩, by decide, rfl⟩⟩

theorem witness_LoopInvariantIsKept :
    (∃ t, ready.Ready ∧ exec .unpk ready = .next t) ∧
    (∃ t, running.Inv ∧ running.RunOnTrack ∧ step running = .next t) :=
  ⟨⟨_, .inl rfl, rfl⟩, ⟨_, running_inv, fun _ _ => running_loopInv, rfl⟩⟩

theorem witness_EndedRunKeepsTheLoopInvariant :
    ∃ t, running.runState = .run ∧ running.unwritten = true ∧
      (running.setAgenda [.csrWrite 0 0x30000000#32]).LoopInv ∧
      (running.setAgenda [.csrWrite 0 0x30000000#32]).agenda.head? ≠ some .reset ∧
      step (running.setAgenda [.csrWrite 0 0x30000000#32]) = .next t ∧ t.runState ≠ .run :=
  ⟨_, rfl, rfl, ⟨running_loopInv.pixels, running_loopInv.rest, running_loopInv.count⟩, by decide, rfl,
   by decide⟩

theorem witness_CompletedRunPaintsEveryCell :
    ready.Inv ∧ ready.Ready ∧ ready.agenda = [] ∧ ready.LenHonest ∧ ready.RasterProvided :=
  ⟨ready_inv, .inl rfl, rfl, Nat.le_refl 1, Nat.le_refl 32⟩

/-- `single` with a host that reads STATUS right after UNPK. -/
def watched : State := single.setAgenda [.csrRead 1]

/-- The three states of its run: the read, the cell step and the completion step are next. -/
theorem watched_inRun {k : Nat} {u : State} (h : watched.startRun.InRun k u) :
    u.agenda = [.csrRead 1] ∨ u.agenda = [] := by
  match k with
  | 0 => cases h.1; exact .inl rfl
  | 1 => cases h.1; exact .inr rfl
  | 2 => cases h.1; exact .inr rfl
  | n + 3 =>
    have := h.2 3 (by omega) _ rfl
    exact absurd this (by decide)

theorem witness_CompletedRunUnderEverySchedule :
    ∃ u, watched.Inv ∧ watched.Ready ∧ watched.LenSet [0x01#8] ∧ watched.HoldsGrid [0x01#8] ∧
      exec .unpk watched = .next watched.startRun ∧ watched.startRun.BuffersOwned ∧
      watched.startRun.NoInterference ∧
      (∀ j < 3, ∀ v, watched.startRun.runFor j = .next v → v.runState = .run) ∧
      watched.startRun.runFor 3 = .next u ∧ u.runState ≠ .run := by
  refine ⟨_, by constructor <;> decide, .inl rfl, rfl, ?_, rfl, ?_, ?_, ?_, rfl, by decide⟩
  · intro a h
    match a, h with
    | 0, _ => rfl
  · intro k u h m hm
    rcases watched_inRun h with e | e <;> rw [e] at hm <;> cases hm
    rfl
  · intro k u h m hm
    rcases watched_inRun h with e | e <;> rw [e] at hm <;> cases hm
    rfl
  · intro j hj v hv
    match j, hj with
    | 0, _ => cases hv; rfl
    | 1, _ => cases hv; rfl
    | 2, _ => cases hv; rfl

/-- A state of a run from which the engine's turn comes only after a host move. -/
theorem witness_EveryScheduleIsFair :
    watched.startRun.InRun 0 watched.startRun ∧ ¬ watched.startRun.EngineNext :=
  ⟨⟨rfl, fun j hj v hv => by cases Nat.le_zero.1 hj; cases hv; rfl⟩, fun h => by
    exact absurd (h (.csrRead 1) rfl) (by decide)⟩

theorem witness_EveryRunEnds :
    midway.Inv ∧ midway.runState = .run ∧ midway.LenHonest ∧ midway.RasterProvided :=
  ⟨midway_inv, rfl, Nat.le_refl 1, Nat.le_refl 32⟩

theorem witness_SecondRunChangesNothing :
    ∃ t u, single.Inv ∧ single.Ready ∧ single.agenda = [] ∧ single.LenHonest ∧
      single.RasterProvided ∧ exec .unpk single = .next t ∧
      t.runFor (min (single.cfg.width * single.cfg.height) (8 * single.pgLen.toNat) + 1) = .next u :=
  ⟨_, _, single_inv, .inl rfl, rfl, Nat.le_refl 1, Nat.le_refl 4, rfl, rfl⟩

theorem witness_ResetClearsTheRegisters :
    (faulted.setAgenda [.reset]).agenda = .reset :: [] := rfl

theorem witness_CsrReadHasNoSideEffect :
    (faulted.setAgenda [.csrRead 0xF]).agenda = .csrRead 0xF :: [] := rfl

theorem witness_CsrWordsHoldTheirRegisters : midway.cfg.wellFormed = true := by decide

theorem witness_StatusBitsShowTheState : midway.Inv ∧ finished.Inv := ⟨midway_inv, finished_inv⟩

/-- A PG_LEN write in each pair of states. -/
theorem witness_PgLenIsWrittenOnlyOutsideRuns :
    ((ready.setAgenda [.csrWrite 2 9]).agenda = .csrWrite 2 9 :: [] ∧ ready.runState = .idle) ∧
    ((midway.setAgenda [.csrWrite 2 9]).agenda = .csrWrite 2 9 :: [] ∧ midway.runState = .run) ∧
    faulted.runState = .fault := by decide

theorem witness_OtherCsrWritesAreIgnored :
    (ready.setAgenda [.csrWrite 1 9]).agenda = .csrWrite 1 9 :: [] ∧
    (0x1#4 : BitVec 4) ≠ 0x0 ∧ (0x1#4 : BitVec 4) ≠ 0x2 := by decide

theorem witness_OnlyTheHostChangesThePackedGrid :
    ∃ t, step midway = .next t ∧ ∀ m, midway.agenda.head? = some m → m.mayChangePg = false :=
  ⟨_, rfl, fun _ h => nomatch h⟩

/-- A painting step: offsets 7 and 12 lie beside the quadruple, 32 at the end of the run. -/
theorem witness_EngineWritesOnlyTheCurrentPixel :
    (∃ t, step midway = .next t ∧ ∀ m, midway.agenda.head? = some m → m.mayChangeRb = false) ∧
    7 < 4 * midway.cellIdx.toNat ∧ 4 * midway.cellIdx.toNat + 4 ≤ 12 ∧
    4 * midway.nlim.toNat ≤ 32 := ⟨⟨_, rfl, fun _ h => nomatch h⟩, by decide, by decide, by decide⟩

theorem witness_PixelReadReturnsItsLutWord :
    (aborted.setAgenda [.rbReadPixel .little 0]).Inv ∧ (aborted.setAgenda [.rbReadPixel .little 0]).LoopInv ∧
    aborted.runState ≠ .run ∧ aborted.RasterProvided ∧ 0 < aborted.cellIdx.toNat ∧
    (aborted.setAgenda [.rbReadPixel .little 0]).agenda = .rbReadPixel .little 0 :: [] :=
  ⟨by constructor <;> decide, ⟨aborted_loopInv.pixels, aborted_loopInv.rest, aborted_loopInv.count⟩,
   by decide, Nat.le_refl 32, by decide, rfl⟩

/-- The last byte and the last pixel of the raster, outside a run. -/
theorem witness_RasterReadsFollowTheByteOrder :
    ready.runState ≠ .run ∧ ready.RasterProvided ∧ 31 < ready.cfg.rbytes ∧ 7 < ready.cfg.ncells ∧
    (ready.setAgenda [.rbRead 31]).agenda = .rbRead 31 :: [] ∧
    (ready.setAgenda [.rbReadPixel .big 7]).agenda = .rbReadPixel .big 7 :: [] :=
  ⟨by decide, Nat.le_refl 32, by decide, by decide, rfl, rfl⟩

theorem witness_PlacedGridReadsBack :
    (ready.setAgenda [.pgPlace [0xF0#8, 0x0F#8]]).agenda = .pgPlace [0xF0#8, 0x0F#8] :: [] ∧
    ready.runState ≠ .run ∧ [0xF0#8, 0x0F#8].length ≤ 2 ^ 32 := by decide

theorem witness_PgWriteReadsBack :
    (ready.setAgenda [.pgWrite 0 0xF0#8]).agenda = .pgWrite 0 0xF0#8 :: [] ∧
    ready.runState ≠ .run ∧ 0 < 2 ^ 32 ∧ 0 < ready.pg.size := by decide

theorem witness_PgWriteWhileBusyFreesTheFetch :
    (midway.setAgenda [.pgWrite 0 0xF0#8]).agenda = .pgWrite 0 0xF0#8 :: [] ∧
    midway.runState = .run ∧ 0 < 2 ^ 32 ∧ 0 < midway.pg.size := by decide

/-- The last pixel of the raster. -/
theorem witness_RasterReadWhileBusyIsOldOrNew :
    (midway.setAgenda [.rbReadPixel .big 7]).agenda = .rbReadPixel .big 7 :: [] ∧ midway.runState = .run ∧
    4 * 7 + 3 < midway.cfg.rbytes ∧ 4 * 7 + 3 < midway.rb.size := by decide

/-- The host has written the first byte of the pixel the engine stores next. -/
theorem witness_ContendedStoreOverwritesOrYields :
    ∃ t, (midway.touchRb 8).Inv ∧ (midway.touchRb 8).runState = .run ∧
      midway.cellIdx.toNat < midway.nlim.toNat ∧ engineStep (midway.touchRb 8) = .next t ∧
      4 * midway.cellIdx.toNat + 0 ∈ (midway.touchRb 8).rbTouched :=
  ⟨_, by constructor <;> decide, rfl, by decide, rfl, by decide⟩

/-- UNPK accepted, a move that keeps ownership, one of each kind that ends it, and noted accesses. -/
theorem witness_OwnershipIsLostByTouchingTheBuffers :
    (∃ t, ready.Ready ∧ exec .unpk ready = .next t) ∧
    (midway.runState = .run ∧ (∃ t, step (midway.setAgenda [.csrRead 1]) = .next t) ∧
      ∀ m, (midway.setAgenda [.csrRead 1]).agenda.head? = some m → m.touchesBuffers = false) ∧
    (∀ m ∈ [HostMove.pgWrite 0 0xF0, .rbRead 0, .rbReadPixel .little 0, .rbWrite 31 0x11],
      (∃ t, step (midway.setAgenda [m]) = .next t) ∧ m.touchesBuffers = true) ∧
    0 ∈ (midway.touchPg 0).pgTouched := by
  refine ⟨⟨_, .inl rfl, rfl⟩, ⟨rfl, ⟨_, rfl⟩, fun m h => by cases h; rfl⟩, ?_, by decide⟩
  intro m hm
  simp only [List.mem_cons, List.not_mem_nil, or_false] at hm
  rcases hm with rfl | rfl | rfl | rfl <;> exact ⟨⟨_, rfl⟩, rfl⟩

/-- A PG port with nothing behind it, and an RB port one byte short of the pixel. -/
theorem witness_UnbackedAccessIsRefused :
    (midway.runState = .run ∧ midway.cellIdx < midway.nlim ∧
      midway.cellIdx.toNat / 8 < midway.pgLen.toNat) ∧
    (({ midway with pg := ⟨0, []⟩ } : State).pg.size ≤ midway.cellIdx.toNat / 8) ∧
    (midway.cellIdx.toNat / 8 < midway.pg.size ∧
      4 * midway.cellIdx.toNat + 3 < midway.cfg.rbytes ∧
      ({ midway with rb := ⟨11, []⟩ } : State).rb.size ≤ 4 * midway.cellIdx.toNat + 3) := by decide

theorem witness_BoardShapeEntersOnlyAsProduct :
    Config.ncells ⟨4, 2⟩ = midway.cfg.ncells ∧ midway.agenda.head? ≠ some (.csrRead 0x3) ∧
    midway.agenda.head? ≠ some (.csrRead 0x4) := by decide

theorem witness_FlagsAndCountNeverSteer :
    midway.hideFlags = ({ midway with short := true, result := true, cnt := 0 } : State).hideFlags ∧
    ∀ m, midway.agenda.head? = some m → m.isCsrRead = false := ⟨rfl, fun _ h => nomatch h⟩

theorem witness_RasterContentNeverSteers :
    midway.hideRaster = ({ midway with rb := ⟨32, []⟩ } : State).hideRaster ∧
    ∀ m, midway.agenda.head? = some m → m.isRbRead = false := ⟨rfl, fun _ h => nomatch h⟩

end Sys2Proof.Tests
end

section
/-! SUPPORT. The board's shape enters only as W*H (00_scope.md R6, R143): each operation commutes
with `State.reshape` to a board of the same size, so a step does. -/

namespace Sys2Proof.Machine

variable {c : Config} {s : State}

/-- The outcome of an operation on a board of the other shape. -/
abbrev reshapeNext (c : Config) (r : Result) : Result := onNext (fun t => t.reshape c) r

/-! ### The updates commute with a reshape

No update below reads W or H, so all but the start of a run need no hypothesis. -/

namespace State

@[simp] theorem raise_reshape (f : FaultCause) (info : Word) :
    (s.reshape c).raise f info = (s.raise f info).reshape c := rfl
@[simp] theorem setResult_reshape (b : Bool) :
    (s.reshape c).setResult b = (s.setResult b).reshape c := rfl
@[simp] theorem setRunState_reshape (r : RunState) :
    (s.reshape c).setRunState r = (s.setRunState r).reshape c := rfl
@[simp] theorem setPgLen_reshape (v : Word) :
    (s.reshape c).setPgLen v = (s.setPgLen v).reshape c := rfl
@[simp] theorem setAgenda_reshape (rest : List HostMove) :
    (s.reshape c).setAgenda rest = (s.setAgenda rest).reshape c := rfl
@[simp] theorem logRead_reshape (r : HostRead) :
    (s.reshape c).logRead r = (s.logRead r).reshape c := rfl
@[simp] theorem noteRbRead_reshape : (s.reshape c).noteRbRead = s.noteRbRead.reshape c := rfl
@[simp] theorem setPg_reshape (b : Buffer) : (s.reshape c).setPg b = (s.setPg b).reshape c := rfl
@[simp] theorem touchPg_reshape (o : Nat) : (s.reshape c).touchPg o = (s.touchPg o).reshape c := rfl
@[simp] theorem setRb_reshape (b : Buffer) : (s.reshape c).setRb b = (s.setRb b).reshape c := rfl
@[simp] theorem contendedWrite_reshape (o : Nat) (v : Byte) :
    (s.reshape c).contendedWrite o v = (s.contendedWrite o v).reshape c := rfl
@[simp] theorem fireReset_reshape : (s.reshape c).fireReset = s.fireReset.reshape c := rfl
@[simp] theorem visibleRb_reshape : (s.reshape c).visibleRb = s.visibleRb := rfl
@[simp] theorem processCell_reshape : (s.reshape c).processCell = s.processCell.reshape c := rfl

/-- UNPK's run limit and warning flags compare 8*PG_LEN with W*H (R24, R26). -/
theorem startRun_reshape (hc : c.ncells = s.cfg.ncells) :
    (s.reshape c).startRun = s.startRun.reshape c := by
  simp [startRun, reshape, runLimit, shortFlag, longFlag, hc]

end State

/-! ### The operations commute with a reshape to a board of the same size -/

/-- The raster's size 4*W*H is the only thing a bounds check takes from the board (R62). -/
theorem rbytes_eq_of_ncells_eq {d : Config} (hc : c.ncells = d.ncells) : c.rbytes = d.rbytes := by
  rw [Config.rbytes, hc, Config.rbytes]

theorem cellStep_reshape (hc : c.ncells = s.cfg.ncells) :
    cellStep (s.reshape c) = reshapeNext c (cellStep s) := by
  simp [cellStep, rbytes_eq_of_ncells_eq hc, apply_ite (reshapeNext c)]

theorem engineStep_reshape (hc : c.ncells = s.cfg.ncells) :
    engineStep (s.reshape c) = reshapeNext c (engineStep s) := by
  by_cases hr : s.runState = .run
  · by_cases hi : s.cellIdx < s.nlim
    · simp [engineStep, hr, hi, cellStep_reshape hc]
    · by_cases he : s.cellIdx = s.nlim <;> simp [engineStep, hr, hi, he]
  · simp [engineStep, hr]

theorem execUnpk_reshape (hc : c.ncells = s.cfg.ncells) :
    execUnpk (s.reshape c) = reshapeNext c (execUnpk s) := by
  cases hr : s.runState <;> simp [execUnpk, hr, State.startRun_reshape hc]

theorem execBtst_reshape (b k : Byte) :
    execBtst b k (s.reshape c) = reshapeNext c (execBtst b k s) := by
  by_cases hr : s.runState = .fault <;> simp [execBtst, hr, apply_ite (reshapeNext c)]

theorem execAbrt_reshape : execAbrt (s.reshape c) = reshapeNext c (execAbrt s) := by
  cases hr : s.runState <;> simp [execAbrt, hr]

theorem exec_reshape (hc : c.ncells = s.cfg.ncells) (i : Instr) :
    exec i (s.reshape c) = reshapeNext c (exec i s) := by
  cases i with
  | nop => rfl
  | unpk => exact execUnpk_reshape hc
  | btst b k => exact execBtst_reshape b k
  | abrt => exact execAbrt_reshape

theorem command_reshape (hc : c.ncells = s.cfg.ncells) (w : Word) :
    command w (s.reshape c) = reshapeNext c (command w s) := by
  cases hd : decode w with
  | command i => simp [command, hd, exec_reshape hc]
  | illegal why => by_cases hr : s.runState = .fault <;> simp [command, hd, hr]

theorem writePgLen_reshape (v : Word) :
    writePgLen v (s.reshape c) = reshapeNext c (writePgLen v s) := by
  cases hr : s.runState <;> simp [writePgLen, hr]

theorem csrWrite_reshape (hc : c.ncells = s.cfg.ncells) (n : BitVec 4) (v : Word) :
    csrWrite n v (s.reshape c) = reshapeNext c (csrWrite n v s) := by
  unfold csrWrite
  split
  · exact command_reshape hc v
  · exact writePgLen_reshape v
  · rfl

/-- No CSR word but WIDTH and HEIGHT shows the shape (R38 to R44). -/
theorem csrValue_reshape {n : BitVec 4} (hw : n ≠ 0x3) (hh : n ≠ 0x4) :
    csrValue (s.reshape c) n = csrValue s n := by
  unfold csrValue
  split
  case h_3 h => exact absurd (BitVec.eq_of_toNat_eq h) hw
  case h_4 h => exact absurd (BitVec.eq_of_toNat_eq h) hh
  all_goals rfl

theorem pgPlace_reshape (bytes : List Byte) :
    pgPlace bytes (s.reshape c) = reshapeNext c (pgPlace bytes s) := by
  by_cases hr : s.runState = .run <;> simp [pgPlace, hr, apply_ite (reshapeNext c)]

theorem rbPlace_reshape (hc : c.ncells = s.cfg.ncells) (bytes : List Byte) :
    rbPlace bytes (s.reshape c) = reshapeNext c (rbPlace bytes s) := by
  by_cases hr : s.runState = .run <;>
    simp [rbPlace, hr, rbytes_eq_of_ncells_eq hc, apply_ite (reshapeNext c)]

theorem pgRead_reshape (o : Nat) : pgRead o (s.reshape c) = reshapeNext c (pgRead o s) := by
  simp [pgRead, apply_ite (reshapeNext c)]

theorem pgWrite_reshape (o : Nat) (v : Byte) :
    pgWrite o v (s.reshape c) = reshapeNext c (pgWrite o v s) := by
  by_cases hr : s.runState = .run <;> simp [pgWrite, hr, apply_ite (reshapeNext c)]

theorem rbRead_reshape (hc : c.ncells = s.cfg.ncells) (o : Nat) :
    rbRead o (s.reshape c) = reshapeNext c (rbRead o s) := by
  simp [rbRead, rbytes_eq_of_ncells_eq hc, apply_ite (reshapeNext c)]

theorem rbReadPixel_reshape (hc : c.ncells = s.cfg.ncells) (e : ByteOrder) (i : Nat) :
    rbReadPixel e i (s.reshape c) = reshapeNext c (rbReadPixel e i s) := by
  simp [rbReadPixel, rbytes_eq_of_ncells_eq hc, apply_ite (reshapeNext c)]

theorem rbWrite_reshape (hc : c.ncells = s.cfg.ncells) (o : Nat) (v : Byte) :
    rbWrite o v (s.reshape c) = reshapeNext c (rbWrite o v s) := by
  by_cases hr : s.runState = .run <;>
    simp [rbWrite, hr, rbytes_eq_of_ncells_eq hc, apply_ite (reshapeNext c)]

/-! ### The step -/

theorem takeMove_reshape {m : HostMove} (rest : List HostMove) (hc : c.ncells = s.cfg.ncells)
    (hw : m ≠ .csrRead 0x3) (hh : m ≠ .csrRead 0x4) :
    takeMove m rest (s.reshape c) = reshapeNext c (takeMove m rest s) := by
  have hrest : c.ncells = (s.setAgenda rest).cfg.ncells := hc
  cases m with
  | engine => exact engineStep_reshape hrest
  | wait =>
    by_cases hr : s.runState = .run <;> simp [takeMove, hr, engineStep_reshape hc]
  | reset => rfl
  | csrRead n =>
    have hn : csrValue (s.reshape c) n = csrValue s n :=
      csrValue_reshape (fun h => hw (h ▸ rfl)) (fun h => hh (h ▸ rfl))
    simp [takeMove, hn]
  | csrWrite n v => exact csrWrite_reshape hrest n v
  | pgPlace bytes => exact pgPlace_reshape (s := s.setAgenda rest) bytes
  | pgRead o => exact pgRead_reshape (s := s.setAgenda rest) o
  | pgWrite o v => exact pgWrite_reshape (s := s.setAgenda rest) o v
  | rbPlace bytes => exact rbPlace_reshape hrest bytes
  | rbRead o => exact rbRead_reshape hrest o
  | rbReadPixel e i => exact rbReadPixel_reshape hrest e i
  | rbWrite o v => exact rbWrite_reshape hrest o v

/-- Settles O49: every operation a step may take commutes with the reshape. -/
theorem boardShapeEntersOnlyAsProduct : Obligations.BoardShapeEntersOnlyAsProduct := by
  intro s c hc hw hh
  cases ha : s.agenda with
  | nil =>
    have ha' : (s.reshape c).agenda = [] := ha
    rw [step_idle_agenda ha, step_idle_agenda ha', engineStep_reshape hc]
  | cons m rest =>
    have ha' : (s.reshape c).agenda = m :: rest := ha
    rw [ha, List.head?_cons] at hw hh
    rw [step_move ha, step_move ha',
      takeMove_reshape rest hc (fun h => hw (h ▸ rfl)) (fun h => hh (h ▸ rfl))]

end Sys2Proof.Machine
end

section
/-! SUPPORT. The invariant of 10_state.md R47: each register update and memory access keeps it under
the conditions its transition guarantees, so every step does. -/

namespace Sys2Proof.Machine

variable {s t : State} {m : Option HostMove}

/-- Below another word, adding one does not wrap (R22, R172). -/
theorem toNat_add_one_of_lt {a b : Word} (h : a < b) : (a + 1).toNat = a.toNat + 1 := by
  bv_omega

/-! ### The updates keep the invariant -/

theorem inv_setAgenda (h : s.Inv) (l : List HostMove) : (s.setAgenda l).Inv := { h with }

/-- Reset needs only legal parameters and canonical memories (R46, R220). -/
theorem inv_fireReset (hc : s.cfg.wellFormed = true) (hp : s.pg.wf) (hr : s.rb.wf)
    (ho : s.rbOld.wf) : s.fireReset.Inv where
  cfg_ok := hc
  idx_le := Nat.le_refl 0
  nlim_le := Nat.zero_le _
  cnt_le := Nat.le_refl 0
  run_nlim := nofun
  run_short := nofun
  run_long := nofun
  done_idx := nofun
  not_both := by simp
  cause_iff := by simp
  cause_le := Nat.zero_le 4
  finfo_zero := fun _ => rfl
  pg_wf := hp
  rb_wf := hr
  rbOld_wf := ho

/-- Fault entry gives CAUSE a fault's code and leaves RUN and DONE (R195). -/
theorem inv_raise (h : s.Inv) (f : FaultCause) (info : Word) : (s.raise f info).Inv :=
  { h with
    run_nlim := nofun
    run_short := nofun
    run_long := nofun
    done_idx := nofun
    cause_iff := by simp
    cause_le := causeCode_le f
    finfo_zero := fun h0 => absurd h0 (causeCode_ne_zero f) }

/-- An accepted UNPK makes NLIM, SHORT and LONG what a run needs (R162). -/
theorem inv_startRun (h : s.Inv) (hr : s.Ready) : s.startRun.Inv :=
  { h with
    idx_le := Nat.zero_le _
    nlim_le := (startRun_nlim_toNat h.cfg_ok).trans_le runLimit_le_ncells
    cnt_le := Nat.le_refl 0
    run_nlim := fun _ => startRun_nlim_toNat h.cfg_ok
    run_short := fun _ => rfl
    run_long := fun _ => rfl
    done_idx := nofun
    not_both := not_short_and_long
    cause_iff := by
      have h0 : s.cause = 0 := h.cause_iff.2 (by rcases hr with hr | hr <;> simp [hr])
      simp [h0]
    rbOld_wf := h.rb_wf }

/-- Entering IDLE, or DONE at the run limit, from a state without a fault (R164, R165). -/
theorem inv_setRunState (h : s.Inv) {r : RunState} (hs : s.runState ≠ .fault) (hrun : r ≠ .run)
    (hfault : r ≠ .fault) (hdone : r = .done → s.cellIdx = s.nlim) : (s.setRunState r).Inv :=
  { h with
    run_nlim := fun hr => absurd hr hrun
    run_short := fun hr => absurd hr hrun
    run_long := fun hr => absurd hr hrun
    done_idx := hdone
    cause_iff := iff_of_true (h.cause_iff.2 hs) hfault }

/-- PG_LEN is free to change where no run relies on it (R35). -/
theorem inv_setPgLen (h : s.Inv) (hr : s.runState ≠ .run) (v : Word) : (s.setPgLen v).Inv :=
  { h with
    run_nlim := fun h' => absurd h' hr
    run_short := fun h' => absurd h' hr
    run_long := fun h' => absurd h' hr }

/-- A cell step moves I up to NLIM at most and counts one cell at most (R163). -/
theorem inv_processCell (h : s.Inv) (hr : s.runState = .run) (hi : s.cellIdx < s.nlim)
    (hq : pixelOffset s.cellIdx.toNat + 3 < s.rb.size) : s.processCell.Inv :=
  have hidx : s.processCell.cellIdx.toNat = s.cellIdx.toNat + 1 := toNat_add_one_of_lt hi
  { h with
    idx_le := by
      rw [hidx]
      exact hi
    cnt_le := by
      have hbit := Bool.toNat_le (s.fetchedBit s.cellIdx.toNat)
      have hcnt := h.cnt_le
      rw [hidx, State.processCell_cnt, BitVec.toNat_add, bitWord_toNat]
      exact (Nat.mod_le _ _).trans (by omega)
    done_idx := fun hd => nomatch hr.symm.trans hd
    rb_wf := memWriteRb_wf s _ _ h.rb_wf hq }

theorem inv_setPg (h : s.Inv) {b : Buffer} (hb : b.wf) : (s.setPg b).Inv := { h with pg_wf := hb }

theorem inv_setRb (h : s.Inv) {b : Buffer} (hb : b.wf) : (s.setRb b).Inv := { h with rb_wf := hb }

/-- Whether or not a contended write lands, the raster stays canonical (HZ2). -/
theorem inv_contendedWrite (h : s.Inv) {o : Nat} (ho : o < s.rb.size) (v : Byte) :
    (s.contendedWrite o v).Inv :=
  { h with
    rb_wf := by
      rw [State.contendedWrite_rb]
      split
      · exact Buffer.write_wf h.rb_wf ho
      · exact h.rb_wf }

/-! ### Every transition keeps the invariant -/

theorem inv_of_transition (tr : Transition m s t) (h : s.Inv) : t.Inv := by
  cases tr with
  | stay => exact h
  | cell _ hr hi _ _ _ hq => exact inv_processCell h hr hi hq
  | bounds => exact inv_raise h _ _
  | complete _ hr hi => exact inv_setRunState h (by simp [hr]) nofun nofun fun _ => hi
  | start _ _ _ hr => exact inv_startRun h hr
  | busy => exact inv_raise h _ _
  | illegal => exact inv_raise h _ _
  | range => exact inv_raise h _ _
  | bit => exact { h with }
  | abort _ _ _ hr =>
    have hs : s.runState ≠ .fault := by rcases hr with hr | hr <;> simp [hr]
    exact inv_setRunState h hs nofun nofun nofun
  | setLen _ _ hr => exact inv_setPgLen h (by rcases hr with hr | hr <;> simp [hr]) _
  | reset => exact inv_fireReset h.cfg_ok h.pg_wf h.rb_wf h.rbOld_wf
  | read => exact { h with }
  | readRb => exact { h with }
  | placePg bs => exact inv_setPg h (Buffer.ofBytes_wf bs)
  | writePg _ _ _ _ ho => exact inv_setPg h (Buffer.write_wf h.pg_wf ho)
  | contendPg _ _ _ _ ho => exact { inv_setPg h (Buffer.write_wf h.pg_wf ho) with }
  | placeRb bs => exact inv_setRb h (Buffer.ofBytes_wf bs)
  | writeRb _ _ _ _ ho => exact inv_setRb h (Buffer.write_wf h.rb_wf ho)
  | contendRb _ v _ _ ho => exact inv_contendedWrite h ho v

/-- Settles O28: a step is a transition from the state with its move taken. -/
theorem everyStepKeepsTheInvariant : Obligations.EveryStepKeepsTheInvariant := by
  intro s t h hst
  obtain ⟨l, tr⟩ := step_transition hst
  exact inv_of_transition tr (inv_setAgenda h l)

/-- Settles O27: the state after reset is a fixed point of reset. -/
theorem invariantHoldsAtReset : Obligations.InvariantHoldsAtReset := by
  obtain ⟨hp, hr, ho⟩ := reset_memories_wf
  exact inv_fireReset (s := State.reset) (by decide) hp hr ho

end Sys2Proof.Machine
end

section
/-! SUPPORT. What an accepted UNPK writes, and how I, NLIM and SHORT move over a step (10_state.md
R22, R24, R26, R47 item 7). -/

namespace Sys2Proof.Machine

variable {s t : State} {m : Option HostMove}

/-- UNPK in IDLE or DONE starts the run (R162). -/
theorem exec_unpk_ready (h : s.Ready) : exec .unpk s = .next s.startRun := by
  rcases h with h | h <;> simp [exec, execUnpk, h]

/-- Settles O11: the registers of the started run, compared as R24 and R26 say. -/
theorem unpkStartsARun : Obligations.UnpkStartsARun := by
  intro s hc hr
  exact ⟨s.startRun, exec_unpk_ready hr, rfl, rfl, rfl, startRun_nlim_toNat hc, shortFlag_iff,
    longFlag_iff, rfl, rfl, rfl, rfl, rfl, rfl, rfl, rfl, rfl⟩

/-- I changes only where a run starts, at a reset, and at a cell step (R22). -/
theorem cellIdx_of_transition (tr : Transition m s t) (hne : t.cellIdx ≠ s.cellIdx) :
    (t.cellIdx = 0 ∧ (m = some .reset ∨
      ∃ w, m = some (.csrWrite 0 w) ∧ decode w = .command .unpk)) ∨
    (s.runState = .run ∧ s.cellIdx < s.nlim ∧ t.cellIdx = s.cellIdx + 1) := by
  cases tr with
  | cell _ hr hi => exact .inr ⟨hr, hi, rfl⟩
  | start w hm hd => exact .inl ⟨rfl, .inr ⟨w, hm, hd⟩⟩
  | reset hm => exact .inl ⟨rfl, .inl hm⟩
  | _ => exact absurd rfl hne

/-- Settles O26: the cell step's addition does not wrap, as I < NLIM. -/
theorem indexIsOnlyClearedOrAdvanced : Obligations.IndexIsOnlyClearedOrAdvanced := by
  intro s t hst hne
  obtain ⟨l, tr⟩ := step_transition hst
  refine (cellIdx_of_transition tr hne).imp_right fun ⟨hr, hi, ht⟩ => ⟨hr, hi, ?_⟩
  rw [ht]
  exact toNat_add_one_of_lt hi

/-- A started run has NLIM = W*H exactly when the grid is not short (R47 item 7). -/
theorem startRun_limitMatchesShort (hc : s.cfg.wellFormed = true) :
    s.startRun.LimitMatchesShort := by
  rw [State.LimitMatchesShort, startRun_nlim_toNat hc]
  exact runLimit_eq_ncells

/-- NLIM and SHORT change only together, by a start or by reset. -/
theorem limitMatchesShort_of_transition (tr : Transition m s t) (hc : s.cfg.wellFormed = true)
    (hm : m ≠ some .reset) (h : s.LimitMatchesShort) : t.LimitMatchesShort := by
  cases tr with
  | start => exact startRun_limitMatchesShort hc
  | reset hm' => exact absurd hm' hm
  | _ => exact h

/-- Settles O29: an accepted UNPK establishes item 7 of R47, every transition but reset keeps it. -/
theorem limitEqualsBoardIffNotShort : Obligations.LimitEqualsBoardIffNotShort := by
  constructor
  · intro s t hc hr ht
    rw [exec_unpk_ready hr] at ht
    exact Outcome.next_inj ht ▸ startRun_limitMatchesShort hc
  · intro s t hc h hm hst
    obtain ⟨l, tr⟩ := step_transition hst
    exact limitMatchesShort_of_transition tr hc hm h

end Sys2Proof.Machine
end

section
/-! SUPPORT. The CSRs: what each word reads, and what a write does (10_state.md R32 to R44,
42_unpack_sequencer.md R166, R167). -/

namespace Sys2Proof.Machine

variable {s : State}

/-- A write to any CSR word but CMD and PG_LEN changes nothing (R167). -/
theorem csrWrite_ignored {n : BitVec 4} (h0 : n ≠ 0x0) (h2 : n ≠ 0x2) (v : Word) :
    csrWrite n v s = .next s := by
  unfold csrWrite
  split
  case h_1 h => exact absurd (BitVec.eq_of_toNat_eq h) h0
  case h_2 h => exact absurd (BitVec.eq_of_toNat_eq h) h2
  case h_3 => rfl

/-- A write to the PG_LEN word is `writePgLen` (R35). -/
theorem csrWrite_pgLen (v : Word) : csrWrite 0x2 v s = writePgLen v s := rfl

theorem writePgLen_of_ready (h : s.Ready) (v : Word) : writePgLen v s = .next (s.setPgLen v) := by
  rcases h with h | h <;> simp [writePgLen, h]

theorem writePgLen_ignored (h : s.runState = .run ∨ s.runState = .fault) (v : Word) :
    writePgLen v s = .next s := by
  rcases h with h | h <;> simp [writePgLen, h]

/-- A CSR write on the agenda is made on the state with the move taken. -/
theorem step_csrWrite {n : BitVec 4} {v : Word} {rest : List HostMove}
    (h : s.agenda = .csrWrite n v :: rest) : step s = csrWrite n v (s.setAgenda rest) :=
  step_move h

/-- Settles O39: no other word of the CSR map takes a write. -/
theorem otherCsrWritesAreIgnored : Obligations.OtherCsrWritesAreIgnored := by
  intro s n v rest ha h0 h2
  rw [step_csrWrite ha, csrWrite_ignored h0 h2]
  rfl

/-- Settles O38: by the four values of STATE, in two pairs. -/
theorem pgLenIsWrittenOnlyOutsideRuns : Obligations.PgLenIsWrittenOnlyOutsideRuns := by
  intro s v rest
  refine ⟨rfl, fun ha => ?_⟩
  rw [step_csrWrite ha, csrWrite_pgLen]
  exact ⟨fun hr => writePgLen_of_ready (s := s.setAgenda rest) hr v,
    fun hr => writePgLen_ignored (s := s.setAgenda rest) hr v⟩

/-- W and H fit a CSR word: each is at most the board's size (R6). -/
theorem shape_lt_word {c : Config} (h : c.wellFormed = true) :
    c.width < 2 ^ 32 ∧ c.height < 2 ^ 32 := by
  obtain ⟨hw, hh, hn⟩ := wellFormed_parts h
  have hwn : c.width ≤ c.ncells := Nat.le_mul_of_pos_right _ hh
  have hhn : c.height ≤ c.ncells := Nat.le_mul_of_pos_left _ hw
  omega

/-- Settles O36: WIDTH and HEIGHT are exact as they fit 32 bits, RESULT and CAUSE are extended by
zeros, the other words are the registers and constants themselves. -/
theorem csrWordsHoldTheirRegisters : Obligations.CsrWordsHoldTheirRegisters := by
  intro s hc
  obtain ⟨hw, hh⟩ := shape_lt_word hc
  exact ⟨rfl, rfl, Nat.mod_eq_of_lt hw, Nat.mod_eq_of_lt hh, rfl, rfl, rfl,
    bitWord_toNat _, BitVec.toNat_setWidth_of_le (by decide), rfl, rfl, rfl, rfl, rfl, rfl⟩

/-- With at most one warning, STATUS is a value of R34. -/
theorem statusWord_legal (r : RunState) {short long : Bool} (h : ¬ (short = true ∧ long = true)) :
    ∃ a ∈ [0x00#32, 0x01#32, 0x02#32, 0x04#32], ∃ f ∈ [0x00#32, 0x08#32, 0x10#32],
      statusWord r short long = a + f := by
  refine ⟨statusWord r false false, ?_, statusWord .idle short long, ?_, ?_⟩
  · cases r <;> decide
  · cases short <;> cases long
    case true.true => exact absurd ⟨rfl, rfl⟩ h
    all_goals decide
  · cases r <;> cases short <;> cases long <;> rfl

/-- Settles O37: from the fields of STATUS, the invariant's exclusion of SHORT with LONG, and the
CSR map. -/
theorem statusBitsShowTheState : Obligations.StatusBitsShowTheState := by
  intro s
  have hbits := statusWord_getLsbD s.runState s.short s.long
  refine ⟨⟨hbits 0, hbits 1, hbits 2, hbits 3, hbits 4, fun n hn => (hbits n).trans ?_⟩,
    fun h => statusWord_legal s.runState h.not_both,
    fun v => csrWrite_ignored (by decide) (by decide) v⟩
  simp only [show n ≠ 0 by omega, show n ≠ 1 by omega, show n ≠ 2 by omega, show n ≠ 3 by omega,
    show n ≠ 4 by omega, if_false]

end Sys2Proof.Machine
end

section
/-! SUPPORT. What never steers the block (10_state.md R23, R26, R48): the named updates of the state
do not look behind a view that blanks the flags and the count, or the bytes of the raster, so two
states alike under such a view step alike. -/

namespace Sys2Proof.Machine

variable {f : State → State} {s : State}

/-- A view `f` of the state no operation of the block looks behind: it keeps everything the
operations test, and what it shows after each named update depends only on what it showed before. -/
structure Blanking (f : State → State) : Prop where
  cfg (s : State) : (f s).cfg = s.cfg
  runState (s : State) : (f s).runState = s.runState
  cellIdx (s : State) : (f s).cellIdx = s.cellIdx
  nlim (s : State) : (f s).nlim = s.nlim
  pgLen (s : State) : (f s).pgLen = s.pgLen
  pg (s : State) : (f s).pg = s.pg
  rb_size (s : State) : (f s).rb.size = s.rb.size
  agenda (s : State) : (f s).agenda = s.agenda
  setAgenda (s : State) (l : List HostMove) : (f s).setAgenda l = f (s.setAgenda l)
  idem (s : State) : f (f s) = f s
  raise (s : State) (c : FaultCause) (info : Word) : f ((f s).raise c info) = f (s.raise c info)
  processCell (s : State) : f (f s).processCell = f s.processCell
  startRun (s : State) : f (f s).startRun = f s.startRun
  setResult (s : State) (c : Bool) : f ((f s).setResult c) = f (s.setResult c)
  setRunState (s : State) (r : RunState) : f ((f s).setRunState r) = f (s.setRunState r)
  setPgLen (s : State) (v : Word) : f ((f s).setPgLen v) = f (s.setPgLen v)
  fireReset (s : State) : f (f s).fireReset = f s.fireReset
  logRead (s : State) (r : HostRead) : f ((f s).logRead r) = f (s.logRead r)
  noteRbRead (s : State) (r : HostRead) :
    f ((f s).logRead r).noteRbRead = f (s.logRead r).noteRbRead
  setPg (s : State) (b : Buffer) : f ((f s).setPg b) = f (s.setPg b)
  touchPg (s : State) (b : Buffer) (o : Nat) :
    f (((f s).setPg b).touchPg o) = f ((s.setPg b).touchPg o)
  setRb (s : State) (b : Buffer) : f ((f s).setRb b) = f (s.setRb b)
  writeRb (s : State) (o : Nat) (v : Byte) :
    f ((f s).setRb ((f s).rb.write o v)) = f (s.setRb (s.rb.write o v))
  contendedWrite (s : State) (o : Nat) (v : Byte) :
    f ((f s).contendedWrite o v) = f (s.contendedWrite o v)

/-- A host read under this move returns the same behind the view; every other move reads nothing. -/
def HostMove.ReadsAlike (f : State → State) : HostMove → Prop
  | .csrRead n => ∀ s, csrValue (f s) n = csrValue s n
  | .rbRead _ => ∀ s, (f s).visibleRb = s.visibleRb
  | .rbReadPixel _ _ => ∀ s, (f s).visibleRb = s.visibleRb
  | .engine => True
  | .wait => True
  | .reset => True
  | .csrWrite _ _ => True
  | .pgPlace _ => True
  | .pgRead _ => True
  | .pgWrite _ _ => True
  | .rbPlace _ => True
  | .rbWrite _ _ => True

/-! ### The two views -/

theorem blanking_hideFlags : Blanking State.hideFlags := by
  constructor <;> intros <;> rfl

/-- The flags and the count are read through CSRs only. -/
theorem readsAlike_hideFlags {m : HostMove} (h : m.isCsrRead = false) :
    m.ReadsAlike State.hideFlags := by
  cases m with
  | csrRead n => cases h
  | rbRead o => exact fun _ => rfl
  | rbReadPixel e i => exact fun _ => rfl
  | _ => trivial

/-- Whether a contended write lands does not depend on the raster, and it leaves the size (HZ2). -/
theorem contendedWrite_hideRaster (s : State) (o : Nat) (v : Byte) :
    (s.hideRaster.contendedWrite o v).hideRaster = (s.contendedWrite o v).hideRaster := by
  have hl : s.hideRaster.writeLands o = s.writeLands o := rfl
  unfold State.contendedWrite
  rw [hl]
  cases s.writeLands o <;> rfl

theorem blanking_hideRaster : Blanking State.hideRaster := by
  constructor
  case contendedWrite => exact contendedWrite_hideRaster
  all_goals intros; rfl

/-- No CSR shows a raster byte (R145). -/
theorem readsAlike_hideRaster {m : HostMove} (h : m.isRbRead = false) :
    m.ReadsAlike State.hideRaster := by
  cases m with
  | csrRead n => exact fun _ => rfl
  | rbRead o => cases h
  | rbReadPixel e i => cases h
  | _ => trivial

/-! ### Each operation, seen through such a view -/

theorem cellStep_blanking (hf : Blanking f) (s : State) :
    onNext f (cellStep (f s)) = onNext f (cellStep s) := by
  simp [cellStep, hf.cfg, hf.cellIdx, hf.pgLen, hf.pg, hf.rb_size, hf.raise, hf.processCell,
    apply_ite (onNext f)]

theorem engineStep_blanking (hf : Blanking f) (s : State) :
    onNext f (engineStep (f s)) = onNext f (engineStep s) := by
  simp [engineStep, hf.runState, hf.cellIdx, hf.nlim, hf.idem, hf.setRunState, cellStep_blanking hf,
    apply_ite (onNext f)]

theorem exec_blanking (hf : Blanking f) (i : Instr) (s : State) :
    onNext f (exec i (f s)) = onNext f (exec i s) := by
  cases i with
  | nop => simp [exec, execNop, hf.idem]
  | unpk =>
    cases hr : s.runState <;>
      simp [exec, execUnpk, hf.runState, hr, hf.idem, hf.raise, hf.startRun]
  | btst b k =>
    simp [exec, execBtst, hf.runState, hf.idem, hf.raise, hf.setResult, apply_ite (onNext f)]
  | abrt =>
    cases hr : s.runState <;> simp [exec, execAbrt, hf.runState, hr, hf.idem, hf.setRunState]

theorem command_blanking (hf : Blanking f) (w : Word) (s : State) :
    onNext f (command w (f s)) = onNext f (command w s) := by
  cases hd : decode w with
  | command i => simp [command, hd, exec_blanking hf]
  | illegal why => simp [command, hd, hf.runState, hf.idem, hf.raise, apply_ite (onNext f)]

theorem writePgLen_blanking (hf : Blanking f) (v : Word) (s : State) :
    onNext f (writePgLen v (f s)) = onNext f (writePgLen v s) := by
  cases hr : s.runState <;> simp [writePgLen, hf.runState, hr, hf.idem, hf.setPgLen]

theorem csrWrite_blanking (hf : Blanking f) (n : BitVec 4) (v : Word) (s : State) :
    onNext f (csrWrite n v (f s)) = onNext f (csrWrite n v s) := by
  unfold csrWrite
  split
  · exact command_blanking hf v s
  · exact writePgLen_blanking hf v s
  · exact congrArg Host.Outcome.next (hf.idem s)

theorem pgPlace_blanking (hf : Blanking f) (bytes : List Byte) (s : State) :
    onNext f (pgPlace bytes (f s)) = onNext f (pgPlace bytes s) := by
  by_cases hr : s.runState = .run <;>
    simp [pgPlace, hf.runState, hr, hf.setPg, apply_ite (onNext f)]

theorem rbPlace_blanking (hf : Blanking f) (bytes : List Byte) (s : State) :
    onNext f (rbPlace bytes (f s)) = onNext f (rbPlace bytes s) := by
  by_cases hr : s.runState = .run <;>
    simp [rbPlace, hf.runState, hr, hf.cfg, hf.setRb, apply_ite (onNext f)]

theorem pgRead_blanking (hf : Blanking f) (o : Nat) (s : State) :
    onNext f (pgRead o (f s)) = onNext f (pgRead o s) := by
  simp [pgRead, State.pgByte, hf.pg, hf.logRead, apply_ite (onNext f)]

theorem pgWrite_blanking (hf : Blanking f) (o : Nat) (v : Byte) (s : State) :
    onNext f (pgWrite o v (f s)) = onNext f (pgWrite o v s) := by
  by_cases hr : s.runState = .run <;>
    simp [pgWrite, hf.runState, hr, hf.pg, hf.setPg, hf.touchPg, apply_ite (onNext f)]

theorem rbRead_blanking (hf : Blanking f) {o : Nat} (h : (HostMove.rbRead o).ReadsAlike f)
    (s : State) :
    onNext f (rbRead o (f s)) = onNext f (rbRead o s) := by
  have hv : (f s).visibleRb = s.visibleRb := h s
  simp [rbRead, hf.cfg, hf.rb_size, hv, hf.noteRbRead, apply_ite (onNext f)]

theorem rbReadPixel_blanking (hf : Blanking f) {e : ByteOrder} {i : Nat}
    (h : (HostMove.rbReadPixel e i).ReadsAlike f) (s : State) :
    onNext f (rbReadPixel e i (f s)) = onNext f (rbReadPixel e i s) := by
  have hv : (f s).visibleRb = s.visibleRb := h s
  simp [rbReadPixel, hf.cfg, hf.rb_size, hv, hf.noteRbRead, apply_ite (onNext f)]

theorem rbWrite_blanking (hf : Blanking f) (o : Nat) (v : Byte) (s : State) :
    onNext f (rbWrite o v (f s)) = onNext f (rbWrite o v s) := by
  by_cases hr : s.runState = .run <;>
    simp [rbWrite, hf.runState, hr, hf.cfg, hf.rb_size, hf.writeRb, hf.contendedWrite,
      apply_ite (onNext f)]

/-! ### The step -/

theorem takeMove_blanking (hf : Blanking f) {m : HostMove} (hm : m.ReadsAlike f)
    (rest : List HostMove) (s : State) :
    onNext f (takeMove m rest (f s)) = onNext f (takeMove m rest s) := by
  cases m with
  | engine => simp only [takeMove, hf.setAgenda, engineStep_blanking hf]
  | wait =>
    by_cases hr : s.runState = .run
    · simp [takeMove, hf.runState, hr, engineStep_blanking hf]
    · simp [takeMove, hf.runState, hr, hf.setAgenda, hf.idem]
  | reset => simp only [takeMove, hf.setAgenda, onNext_next, hf.fireReset]
  | csrRead n =>
    have hn : csrValue (f s) n = csrValue s n := hm s
    simp [takeMove, hf.setAgenda, hn, hf.logRead]
  | csrWrite n v => simp only [takeMove, hf.setAgenda, csrWrite_blanking hf]
  | pgPlace bytes => simp only [takeMove, hf.setAgenda, pgPlace_blanking hf]
  | pgRead o => simp only [takeMove, hf.setAgenda, pgRead_blanking hf]
  | pgWrite o v => simp only [takeMove, hf.setAgenda, pgWrite_blanking hf]
  | rbPlace bytes => simp only [takeMove, hf.setAgenda, rbPlace_blanking hf]
  | rbRead o => simp only [takeMove, hf.setAgenda, rbRead_blanking hf hm]
  | rbReadPixel e i => simp only [takeMove, hf.setAgenda, rbReadPixel_blanking hf hm]
  | rbWrite o v => simp only [takeMove, hf.setAgenda, rbWrite_blanking hf]

theorem step_blanking (hf : Blanking f) (hm : ∀ m, s.agenda.head? = some m → m.ReadsAlike f) :
    onNext f (step (f s)) = onNext f (step s) := by
  have hagenda := hf.agenda s
  cases ha : s.agenda with
  | nil =>
    rw [step_idle_agenda ha, step_idle_agenda (hagenda.trans ha), engineStep_blanking hf]
  | cons m rest =>
    rw [step_move ha, step_move (hagenda.trans ha),
      takeMove_blanking hf (hm m (congrArg List.head? ha)) rest s]

/-- States alike under such a view step alike: each steps as the view of itself does. -/
theorem step_alike {s' : State} (hf : Blanking f) (h : f s = f s')
    (hm : ∀ m, s.agenda.head? = some m → m.ReadsAlike f) :
    onNext f (step s) = onNext f (step s') := by
  have hagenda : s'.agenda = s.agenda := by rw [← hf.agenda s', ← h, hf.agenda]
  calc onNext f (step s) = onNext f (step (f s)) := (step_blanking hf hm).symm
    _ = onNext f (step (f s')) := by rw [h]
    _ = onNext f (step s') := step_blanking hf (hagenda ▸ hm)

/-- Settles O50: the view that blanks the flags and the count is one no operation looks behind. -/
theorem flagsAndCountNeverSteer : Obligations.FlagsAndCountNeverSteer :=
  fun _ _ h hm => step_alike blanking_hideFlags h fun m hs => readsAlike_hideFlags (hm m hs)

/-- Settles O51: the view that blanks the raster's bytes is one no operation looks behind. -/
theorem rasterContentNeverSteers : Obligations.RasterContentNeverSteers :=
  fun _ _ h hm => step_alike blanking_hideRaster h fun m hs => readsAlike_hideRaster (hm m hs)

end Sys2Proof.Machine
end

section
/-! SUPPORT. The run of the engine alone (42_unpack_sequencer.md R163, R164, R168): inside a run the
invariant keeps each cell step within its bounds, so with the launch premises of R229 the run is the
iterated cell step and the completion step; a second run writes the bytes that already stand
(20_memory.md R70). -/

namespace Sys2Proof.Machine

variable {s t : State} {m : Option HostMove} {b : Buffer} {n : Nat}

/-! ### Bounds -/

/-- The run limit keeps every cell of a run below both of its bounds (R72, R194). -/
theorem cell_in_bounds (h : s.Inv) (hr : s.runState = .run) (hi : s.cellIdx < s.nlim) :
    splitByte s.cellIdx.toNat < s.pgLen.toNat ∧ pixelOffset s.cellIdx.toNat + 3 < s.cfg.rbytes := by
  have hi' : s.cellIdx.toNat < s.nlim.toNat := hi
  have hcells := h.nlim_le
  have hbits : s.nlim.toNat ≤ 8 * s.pgLen.toNat := (h.run_nlim hr).trans_le runLimit_le_bits
  simp only [splitByte, pixelOffset, Config.rbytes]
  omega

/-- With real memory behind both ports the engine processes the cell (R163). -/
theorem engineStep_processCell (h : s.Inv) (hr : s.runState = .run) (hi : s.cellIdx < s.nlim)
    (hl : s.LenHonest) (hp : s.RasterProvided) : engineStep s = .next s.processCell := by
  obtain ⟨ha, hb⟩ := cell_in_bounds h hr hi
  exact engineStep_cell hr hi ha (ha.trans_le hl) hb (hb.trans_le hp)

/-- BoundsFault is the only fault with cause 4, and no cell of a run raises it. -/
theorem cause_ne_four_of_transition (tr : Transition m s t) (h : s.Inv) (hc : s.cause ≠ 4) :
    t.cause ≠ 4 := by
  cases tr with
  | bounds _ hr hi hout =>
    obtain ⟨ha, hb⟩ := cell_in_bounds h hr hi
    exact absurd hout (not_or.2 ⟨not_not.2 ha, not_not.2 hb⟩)
  | busy => exact (by decide : causeCode .busyFault ≠ 4)
  | illegal => exact (by decide : causeCode .illegalCommand ≠ 4)
  | range => exact (by decide : causeCode .rangeFault ≠ 4)
  | reset => exact (by decide : (0 : BitVec 3) ≠ 4)
  | _ => exact hc

/-- Settles O25: a cell of a run is in bounds, so the transition that raises it is out of reach. -/
theorem noStepRaisesBoundsFault : Obligations.NoStepRaisesBoundsFault := by
  intro s t h hc hst
  obtain ⟨l, tr⟩ := step_transition hst
  exact cause_ne_four_of_transition tr (inv_setAgenda h l) hc

/-! ### The end of a run -/

/-! The loop invariant speaks of I, CNT and the two memories alone, which the end of a run keeps. -/

theorem loopInv_setRunState (h : s.LoopInv) (r : RunState) : (s.setRunState r).LoopInv :=
  ⟨h.pixels, h.rest, h.count⟩

theorem loopInv_raise (h : s.LoopInv) (f : FaultCause) (info : Word) : (s.raise f info).LoopInv :=
  ⟨h.pixels, h.rest, h.count⟩

theorem loopInv_of_transition_ends (tr : Transition m s t) (hm : m ≠ some .reset)
    (hr : s.runState = .run) (ht : t.runState ≠ .run) (h : s.LoopInv) : t.LoopInv := by
  cases tr with
  | complete => exact loopInv_setRunState h _
  | abort => exact loopInv_setRunState h _
  | bounds => exact loopInv_raise h _ _
  | busy => exact loopInv_raise h _ _
  | illegal => exact loopInv_raise h _ _
  | range => exact loopInv_raise h _ _
  | reset hm' => exact absurd hm' hm
  | start => exact absurd rfl ht
  | _ => exact absurd hr ht

/-- Settles O31: by the transitions that leave RUN. -/
theorem endedRunKeepsTheLoopInvariant : Obligations.EndedRunKeepsTheLoopInvariant := by
  intro s t hr _ h hm hst ht
  obtain ⟨l, tr⟩ := step_transition hst
  exact loopInv_of_transition_ends tr hm hr ht ⟨h.pixels, h.rest, h.count⟩

/-! ### The undisturbed run -/

/-- A run in progress with the invariant, the launch premises of R229 on the memories, both buffers
unwritten by the host, and no host move waiting. -/
structure State.Undisturbed (s : State) : Prop where
  inv : s.Inv
  running : s.runState = .run
  lenHonest : s.LenHonest
  rasterProvided : s.RasterProvided
  unwritten : s.unwritten = true
  idle : s.agenda = []

/-- An accepted UNPK with the premises met starts an undisturbed run. -/
theorem undisturbed_startRun (h : s.Inv) (hr : s.Ready) (ha : s.agenda = []) (hl : s.LenHonest)
    (hp : s.RasterProvided) : s.startRun.Undisturbed where
  inv := inv_startRun h hr
  running := rfl
  lenHonest := hl
  rasterProvided := hp
  unwritten := rfl
  idle := ha

theorem undisturbed_processCell (h : s.Undisturbed) (hi : s.cellIdx < s.nlim) :
    s.processCell.Undisturbed where
  inv := inv_processCell h.inv h.running hi
    ((cell_in_bounds h.inv h.running hi).2.trans_le h.rasterProvided)
  running := h.running
  lenHonest := h.lenHonest
  rasterProvided := h.rasterProvided
  unwritten := h.unwritten
  idle := h.idle

theorem step_undisturbed (h : s.Undisturbed) (hi : s.cellIdx < s.nlim) :
    step s = .next s.processCell :=
  (step_idle_agenda h.idle).trans
    (engineStep_processCell h.inv h.running hi h.lenHonest h.rasterProvided)

/-- Each cell step brings I one nearer to NLIM (R231). -/
theorem processCell_remaining (hn : s.cellIdx.toNat + (n + 1) = s.nlim.toNat) :
    s.cellIdx < s.nlim ∧ s.processCell.cellIdx.toNat + n = s.processCell.nlim.toNat := by
  have hi : s.cellIdx < s.nlim := show s.cellIdx.toNat < s.nlim.toNat by omega
  refine ⟨hi, ?_⟩
  rw [State.processCell_cellIdx, toNat_add_one_of_lt hi, State.processCell_nlim]
  omega

/-- With n cells to go, n cell steps and the completion step end the run (R168). -/
theorem runFor_undisturbed (h : s.Undisturbed) (hn : s.cellIdx.toNat + n = s.nlim.toNat) :
    s.runFor (n + 1) = .next ((State.processCell^[n] s).setRunState .done) ∧
      (State.processCell^[n] s).Undisturbed ∧
      (State.processCell^[n] s).cellIdx = (State.processCell^[n] s).nlim := by
  induction n generalizing s with
  | zero =>
    have hi : s.cellIdx = s.nlim := BitVec.eq_of_toNat_eq hn
    have hstep : step s = .next (s.setRunState .done) :=
      (step_idle_agenda h.idle).trans (engineStep_complete h.running hi)
    exact ⟨runFor_succ 0 hstep, h, hi⟩
  | succ n ih =>
    obtain ⟨hi, hn'⟩ := processCell_remaining hn
    rw [runFor_succ _ (step_undisturbed h hi), Function.iterate_succ_apply]
    exact ih (undisturbed_processCell h hi) hn'

/-- On buffers the host has not written a cell step uses no free value. -/
theorem processCell_unwritten_eq (h : s.unwritten = true) :
    s.processCell = ((s.storePixel s.cellIdx.toNat (lut (s.extract s.cellIdx.toNat))).count
      (s.extract s.cellIdx.toNat)).advance := by
  have hspend : ∀ u : State, u.unwritten = true → u.spendCell = u := fun u hu => by
    simp [State.spendCell, hu]
  rw [State.processCell, fetchedBit_unwritten h]
  exact congrArg State.advance (hspend _ h)

/-- On buffers the host has not written cell steps change only I, CNT and the raster's bytes. -/
theorem processCells_frame (h : s.unwritten = true) (n : Nat) :
    ∃ i c m, State.processCell^[n] s =
      { s with cellIdx := i, cnt := c, rb := { s.rb with cells := m } } := by
  induction n generalizing s with
  | zero => exact ⟨s.cellIdx, s.cnt, s.rb.cells, rfl⟩
  | succ n ih =>
    obtain ⟨i, c, m, hs⟩ := ih (s := s.processCell) h
    exact ⟨i, c, m, by rw [Function.iterate_succ_apply, hs, processCell_unwritten_eq h]; rfl⟩

/-! ### A raster painted before -/

/-- A store of four bytes lists each of them at its offset. -/
theorem read?_write4_same (m : Memory) (a : Nat) (v : Nat → Byte) (hn : n < 4) :
    (m.write4 a (v 0) (v 1) (v 2) (v 3)).read? (a + n) = some (v n) := by
  obtain rfl | rfl | rfl | rfl : n = 0 ∨ n = 1 ∨ n = 2 ∨ n = 3 := by omega
  all_goals simp [Memory.write4, read?_write_other]

/-- A store of four bytes leaves what every other offset lists. -/
theorem read?_write4_other (m : Memory) {a x : Nat} (v0 v1 v2 v3 : Byte)
    (hx : x < a ∨ a + 4 ≤ x) : (m.write4 a v0 v1 v2 v3).read? x = m.read? x := by
  rw [Memory.write4, read?_write_other _ _ (by omega), read?_write_other _ _ (by omega),
    read?_write_other _ _ (by omega), read?_write_other _ _ (by omega)]

/-- Storing the four bytes that are already listed changes nothing. -/
theorem write4_listed {m : Memory} {a : Nat} {v : Nat → Byte} (hm : m.wf)
    (h : ∀ n < 4, m.read? (a + n) = some (v n)) :
    m.write4 a (v 0) (v 1) (v 2) (v 3) = m := by
  have h0 : m.read? a = some (v 0) := h 0 (by omega)
  rw [Memory.write4, write_listed hm h0, write_listed hm (h 1 (by omega)),
    write_listed hm (h 2 (by omega)), write_listed hm (h 3 (by omega))]

/-- The buffer lists the four bytes of cell j in the colour of bit c. -/
def Buffer.Shows (b : Buffer) (j : Nat) (c : Bool) : Prop :=
  ∀ n < 4, b.cells.read? (pixelOffset j + n) = some (laneByte (lut c) n)

theorem storePixel_cells_unwritten (h : s.unwritten = true) (i : Nat) (p : Word) :
    (s.storePixel i p).rb.cells = s.rb.cells.write4 (pixelOffset i) (laneByte p 0) (laneByte p 1)
      (laneByte p 2) (laneByte p 3) := by
  simp only [State.storePixel, State.memWriteRb, settled_unwritten h]

/-- Storing a colour the raster already shows changes nothing (R70). -/
theorem storePixel_shown {j : Nat} {c : Bool} (h : s.unwritten = true) (hb : s.rb.wf)
    (hs : s.rb.Shows j c) : s.storePixel j (lut c) = s := by
  have hcells : (s.storePixel j (lut c)).rb.cells = s.rb.cells :=
    (storePixel_cells_unwritten h j (lut c)).trans (write4_listed hb.1 hs)
  calc s.storePixel j (lut c)
      = s.setRb { s.rb with cells := (s.storePixel j (lut c)).rb.cells } := rfl
    _ = s := by rw [hcells]; rfl

/-- The first part of the loop invariant of R169, with the bytes listed: the raster shows every cell
below I. -/
def State.ShowsCells (s : State) : Prop := ∀ j < s.cellIdx.toNat, s.rb.Shows j (s.extract j)

theorem showsCells_processCell (h : s.unwritten = true) (hi : s.cellIdx < s.nlim)
    (hs : s.ShowsCells) : s.processCell.ShowsCells := by
  intro j hj n hn
  rw [State.processCell_cellIdx, toNat_add_one_of_lt hi] at hj
  rw [State.processCell_rb, State.processCell_extract, fetchedBit_unwritten h,
    storePixel_cells_unwritten h]
  rcases Nat.lt_succ_iff_lt_or_eq.1 hj with hlt | rfl
  · rw [read?_write4_other _ _ _ _ _ (by simp only [pixelOffset]; omega)]
    exact hs j hlt n hn
  · exact read?_write4_same _ _ (laneByte _) hn

/-- At the end of a run the raster shows every cell below NLIM (R168). -/
theorem processCells_shows (h : s.unwritten = true)
    (hn : s.cellIdx.toNat + n = s.nlim.toNat) (hs : s.ShowsCells) :
    ∀ j < s.nlim.toNat, (State.processCell^[n] s).rb.Shows j (s.extract j) := by
  induction n generalizing s with
  | zero => exact fun j hj => hs j (by omega)
  | succ n ih =>
    obtain ⟨hi, hn'⟩ := processCell_remaining hn
    exact ih (s := s.processCell) h hn' (showsCells_processCell h hi hs)

/-! ### A second run -/

/-- The state with the raster b, now and as the one before the run. -/
def State.onRaster (s : State) (b : Buffer) : State := { s with rb := b, rbOld := b }

/-- A cell step on a raster that already shows its cell leaves that raster. -/
theorem processCell_onRaster (h : s.unwritten = true) (hb : b.wf)
    (hs : b.Shows s.cellIdx.toNat (s.extract s.cellIdx.toNat)) :
    (s.onRaster b).processCell = s.processCell.onRaster b := by
  rw [processCell_unwritten_eq (s := s.onRaster b) h, processCell_unwritten_eq h]
  exact congrArg (fun u => (u.count (s.extract s.cellIdx.toNat)).advance)
    (storePixel_shown (s := s.onRaster b) h hb hs)

theorem processCells_onRaster (h : s.unwritten = true)
    (hn : s.cellIdx.toNat + n = s.nlim.toNat) (hb : b.wf)
    (hs : ∀ j < s.nlim.toNat, b.Shows j (s.extract j)) :
    State.processCell^[n] (s.onRaster b) = (State.processCell^[n] s).onRaster b := by
  induction n generalizing s with
  | zero => rfl
  | succ n ih =>
    obtain ⟨hi, hn'⟩ := processCell_remaining hn
    rw [Function.iterate_succ_apply, processCell_onRaster h hb (hs _ hi)]
    exact ih (s := s.processCell) h hn' hs

/-- UNPK after a completed run starts it again, on the raster it left. -/
theorem startRun_after_run (s : State) (n : Nat) :
    ((State.processCell^[n] s.startRun).setRunState .done).startRun =
      s.startRun.onRaster (State.processCell^[n] s.startRun).rb := by
  obtain ⟨i, c, m, hs⟩ := processCells_frame (s := s.startRun) rfl n
  rw [hs]
  rfl

/-- Settles O33: both runs are the same cell steps, and in the second each store writes the bytes
the first has left. -/
theorem secondRunChangesNothing : Obligations.SecondRunChangesNothing := by
  intro s t u h hr ha hl hp ht hu
  obtain rfl : t = s.startRun := Outcome.next_inj ((exec_unpk_ready hr).symm.trans ht)
  have hcells : s.startRun.cellIdx.toNat + runLimit s.cfg s.pgLen = s.startRun.nlim.toNat := by
    rw [startRun_nlim_toNat h.cfg_ok, State.startRun_cellIdx]
    exact Nat.zero_add _
  obtain ⟨hfirst, hend, hidx⟩ := runFor_undisturbed (undisturbed_startRun h hr ha hl hp) hcells
  obtain rfl := Outcome.next_inj (hfirst.symm.trans hu)
  have hshows := processCells_shows (s := s.startRun) rfl hcells fun _ hj => nomatch hj
  have hrestart := undisturbed_startRun
    (inv_setRunState hend.inv (r := .done) (by simp [hend.running]) nofun nofun fun _ => hidx)
    (.inr rfl) hend.idle hend.lenHonest hend.rasterProvided
  rw [startRun_after_run] at hrestart
  refine ⟨_, exec_unpk_ready (.inr rfl), ?_⟩
  rw [startRun_after_run]
  refine (runFor_undisturbed hrestart hcells).1.trans ?_
  rw [processCells_onRaster rfl hcells hend.inv.rb_wf hshows]
  rfl

end Sys2Proof.Machine
end

section
/-! SUPPORT. How a command comes to run (20_memory.md R76, 42_unpack_sequencer.md R160): a CMD write
of its word, which decodes back to it. -/

namespace Sys2Proof.Machine

variable {s : State}

/-- The word of a command decodes to that command (R100). -/
theorem decode_encode (i : Instr) : decode (encode i) = .command i := by
  cases i with
  | nop => decide
  | unpk => decide
  | abrt => decide
  | btst b k =>
    have hrow : formatC 2#4 k b &&& 0xFFFF0000#32 = 0x20000000#32 :=
      (btst_row_iff _).2 ⟨opField_formatC _ _ _, zeroField_formatC _ _ _⟩
    have hother : ∀ w, opField w ≠ 2#4 → formatC 2#4 k b ≠ w :=
      fun w hw h => hw (h ▸ opField_formatC _ _ _)
    have hnop := hother 0x00000000#32 (by decide)
    have hunpk := hother 0x10000000#32 (by decide)
    rw [encode, decode, and_full_mask, if_neg hnop, if_neg hunpk, if_pos hrow, bField_formatC,
      kField_formatC]

/-- A CMD write of a legal word is the meaning of its command (R160). -/
theorem step_command {w : Word} {i : Instr} {rest : List HostMove}
    (h : s.agenda = .csrWrite 0 w :: rest) (hd : decode w = .command i) :
    step s = exec i (s.setAgenda rest) := by
  rw [step_csrWrite h]
  simp [csrWrite, command, hd]

/-- Settles O6: the CMD write is the move taken. -/
theorem stepRunsTheDecodedCommand : Obligations.StepRunsTheDecodedCommand :=
  fun _ _ _ _ => step_command

/-- Settles O7: the placed word is the command's own, and taking the move restores the agenda. -/
theorem placedCommandRunsNext : Obligations.PlacedCommandRunsNext := by
  intro s i
  have hw : BitVec.ofNat 32 ((encode i).toNat % 2 ^ 32) = encode i := by
    rw [Nat.mod_eq_of_lt (encode i).isLt, BitVec.ofNat_toNat, BitVec.setWidth_eq]
  have ha : (s.withFetchWord 32 (encode i).toNat).agenda = .csrWrite 0 (encode i) :: s.agenda := by
    simp only [State.withFetchWord, commandMove, hw, State.setAgenda_agenda]
  exact step_command ha (decode_encode i)

end Sys2Proof.Machine
end

section
/-! SUPPORT. Who reads and writes the two memories (20_memory.md R60 to R78): what a host access
returns and changes, and that nothing but the host changes PG and nothing but the host and the cell
step changes RB. -/

namespace Sys2Proof.Machine

variable {s t : State} {m : Option HostMove} {b : Buffer} {e : ByteOrder} {i n o : Nat}

/-! ### Who writes -/

/-- Only a host write or a new buffer changes the PackedGrid (R60). -/
theorem pg_of_transition (tr : Transition m s t) (hm : ∀ x, m = some x → x.mayChangePg = false) :
    t.pg = s.pg := by
  cases tr with
  | placePg _ hx => exact nomatch hm _ hx
  | writePg _ _ hx => exact nomatch hm _ hx
  | contendPg _ _ hx => exact nomatch hm _ hx
  | _ => rfl

/-- Settles O40: by the transition a step is. -/
theorem onlyTheHostChangesThePackedGrid : Obligations.OnlyTheHostChangesThePackedGrid := by
  intro s t hst hm
  obtain ⟨l, tr⟩ := step_transition hst
  exact pg_of_transition (s := s.setAgenda l) tr hm

/-- Only a host write, a new buffer or a cell step changes the raster (R145). -/
theorem rb_of_transition (tr : Transition m s t) (hm : ∀ x, m = some x → x.mayChangeRb = false) :
    t.rb = s.rb ∨ (s.runState = .run ∧ s.cellIdx < s.nlim ∧ t.rb = s.processCell.rb) := by
  cases tr with
  | cell _ hr hi => exact .inr ⟨hr, hi, rfl⟩
  | placeRb _ hx => exact nomatch hm _ hx
  | writeRb _ _ hx => exact nomatch hm _ hx
  | contendRb _ _ hx => exact nomatch hm _ hx
  | _ => exact .inl rfl

/-- Settles O41: a cell step leaves every byte but its own four, which are below 4*NLIM. -/
theorem engineWritesOnlyTheCurrentPixel : Obligations.EngineWritesOnlyTheCurrentPixel := by
  intro s t hst hm
  obtain ⟨l, tr⟩ := step_transition hst
  rcases rb_of_transition tr hm with hrb | ⟨hr, hi, hrb⟩
  · rw [hrb]
    exact ⟨rfl, fun _ _ => rfl, fun _ _ => rfl⟩
  · have hi' : s.cellIdx.toNat < s.nlim.toNat := hi
    rw [hrb]
    refine ⟨rfl, fun o ho => processCell_other _ (ho hr hi'), fun o ho =>
      processCell_other _ (.inr ?_)⟩
    show 4 * s.cellIdx.toNat + 4 ≤ o
    omega

/-! ### Host accesses to PG -/

theorem pgByte_setPg_write_same (s : State) (o : Nat) (v : Byte) :
    (s.setPg (s.pg.write o v)).pgByte o = v := by
  simp [State.pgByte, Buffer.write]

theorem pgByte_setPg_write_other (s : State) (v : Byte) {a : Nat} (h : a ≠ o) :
    (s.setPg (s.pg.write o v)).pgByte a = s.pgByte a := by
  simp [State.pgByte, Buffer.write, read?_write_other _ _ h]

theorem pgPlace_of_not_run {bytes : List Byte} (hr : s.runState ≠ .run)
    (hlen : bytes.length ≤ 2 ^ 32) : pgPlace bytes s = .next (s.setPg (Buffer.ofBytes bytes)) := by
  rw [pgPlace, if_neg hr, if_neg (Nat.not_lt.2 hlen)]

theorem pgWrite_of_not_run (hr : s.runState ≠ .run) (ho : o < 2 ^ 32) (hsize : o < s.pg.size)
    (v : Byte) : pgWrite o v s = .next (s.setPg (s.pg.write o v)) := by
  rw [pgWrite, if_neg (not_not.2 ho), if_neg (not_not.2 hsize), if_neg hr]

/-- A placed PackedGrid reads back byte for byte (R61). -/
theorem pgByte_setPg_ofBytes (s : State) (bytes : List Byte) {a : Nat} (h : a < bytes.length) :
    (s.setPg (Buffer.ofBytes bytes)).pgByte a = bytes[a] := by
  have hread := read?_place 0 bytes a
  rw [Nat.zero_add, List.getElem?_eq_getElem h] at hread
  simp [State.pgByte, Buffer.ofBytes, hread]

/-- Settles O43: outside a run the binding is taken. -/
theorem placedGridReadsBack : Obligations.PlacedGridReadsBack := by
  intro s bytes rest ha hr hlen
  exact ⟨_, (step_move ha).trans (pgPlace_of_not_run (s := s.setAgenda rest) hr hlen), rfl,
    fun a h => pgByte_setPg_ofBytes _ bytes h, rfl⟩

/-- Settles O44: outside a run the write is plain. -/
theorem pgWriteReadsBack : Obligations.PgWriteReadsBack := by
  intro s o v rest ha hr ho hsize
  exact ⟨_, (step_move ha).trans (pgWrite_of_not_run (s := s.setAgenda rest) hr ho hsize v),
    pgByte_setPg_write_same _ o v,
    fun a h => pgByte_setPg_write_other (s.setAgenda rest) v h, rfl⟩

/-! ### Host reads of RB -/

/-- Which byte of a pixel stands in bits 8n+7 to 8n of a 32-bit read (R66). -/
def ByteOrder.lane : ByteOrder → Nat → Nat
  | .little, n => n
  | .big, n => 3 - n

theorem ByteOrder.lane_lt (e : ByteOrder) (hn : n < 4) : e.lane n < 4 := by
  cases e <;> simp only [ByteOrder.lane] <;> omega

/-- Byte n of a word put together from four bytes. -/
theorem laneByte_bytes (f : Nat → Byte) (hn : n < 4) :
    laneByte (f 3 ++ (f 2 ++ (f 1 ++ f 0))) n = f n := by
  unfold laneByte
  obtain rfl | rfl | rfl | rfl : n = 0 ∨ n = 1 ∨ n = 2 ∨ n = 3 := by omega
  · exact (BitVec.extractLsb'_append_eq_of_add_le (by decide)).trans
      ((BitVec.extractLsb'_append_eq_of_add_le (by decide)).trans
        BitVec.extractLsb'_append_eq_right)
  · exact (BitVec.extractLsb'_append_eq_of_add_le (by decide)).trans
      ((BitVec.extractLsb'_append_eq_of_add_le (by decide)).trans
        BitVec.extractLsb'_append_eq_left)
  · exact (BitVec.extractLsb'_append_eq_of_add_le (by decide)).trans
      BitVec.extractLsb'_append_eq_left
  · exact BitVec.extractLsb'_append_eq_left

/-- Words of the same four bytes are equal. -/
theorem eq_of_laneByte_eq {p q : Word} (h : ∀ n < 4, laneByte p n = laneByte q n) : p = q := by
  rw [← lanes_append p, ← lanes_append q, h 0 (by omega), h 1 (by omega), h 2 (by omega),
    h 3 (by omega)]

/-- The bytes of a 32-bit read (R66). -/
theorem laneByte_rbPixel (b : Buffer) (e : ByteOrder) (i : Nat) (hn : n < 4) :
    laneByte (b.rbPixel e i) n = b.rbByte (pixelOffset i + e.lane n) := by
  cases e with
  | little =>
    simpa [Buffer.rbPixel, ByteOrder.lane] using
      laneByte_bytes (fun n => b.rbByte (pixelOffset i + n)) hn
  | big =>
    simpa [Buffer.rbPixel, ByteOrder.lane] using
      laneByte_bytes (fun n => b.rbByte (pixelOffset i + (3 - n))) hn

/-- Both colours are byte palindromes (R66). -/
theorem laneByte_lut_lane (c : Bool) (e : ByteOrder) (hn : n < 4) :
    laneByte (lut c) (e.lane n) = laneByte (lut c) n := by
  have key : ∀ n < 4, laneByte (lut c) (3 - n) = laneByte (lut c) n := by cases c <;> decide
  cases e with
  | little => rfl
  | big => exact key n hn

/-- A pixel painted in a colour reads as that colour in either byte order. -/
theorem rbPixel_painted {c : Bool}
    (h : ∀ n < 4, b.rbByte (pixelOffset i + n) = laneByte (lut c) n) (e : ByteOrder) :
    b.rbPixel e i = lut c :=
  eq_of_laneByte_eq fun n hn => by
    rw [laneByte_rbPixel b e i hn, h _ (e.lane_lt hn), laneByte_lut_lane c e hn]

/-- Outside a run a host reads the raster as it is (R69). -/
theorem visibleRb_of_not_run (hr : s.runState ≠ .run) : s.visibleRb = s.rb := by
  simp [State.visibleRb, hr]

/-- Outside a run a read of RB leaves no note. -/
theorem noteRbRead_of_not_run (hr : s.runState ≠ .run) : s.noteRbRead = s := by
  simp [State.noteRbRead, hr]

/-- While BUSY a read of RB is noted and uses one free choice (HZ2, R229). -/
theorem noteRbRead_of_run (hr : s.runState = .run) :
    s.noteRbRead = { s with free := s.free + 1, rbPeeked := true } := by
  simp [State.noteRbRead, hr]

/-- The last byte of a pixel of the board is in the raster (R62). -/
theorem pixel_in_raster {c : Config} (h : i < c.ncells) : pixelOffset i + 3 < c.rbytes := by
  simp only [pixelOffset, Config.rbytes]
  omega

/-- A backed 32-bit read returns the visible pixel (R66). -/
theorem rbReadPixel_backed (e : ByteOrder) (hb : pixelOffset i + 3 < s.cfg.rbytes)
    (hq : pixelOffset i + 3 < s.rb.size) :
    rbReadPixel e i s = .next (s.logRead (.pixel (s.visibleRb.rbPixel e i))).noteRbRead := by
  rw [rbReadPixel, if_neg (not_not.2 hb), if_neg (not_not.2 hq)]

/-- Outside a run a 32-bit read returns the pixel and changes nothing (R66). -/
theorem rbReadPixel_of_not_run (e : ByteOrder) (hr : s.runState ≠ .run) (hp : s.RasterProvided)
    (hi : i < s.cfg.ncells) :
    rbReadPixel e i s = .next (s.logRead (.pixel (s.rb.rbPixel e i))) := by
  have hb := pixel_in_raster hi
  rw [rbReadPixel_backed e hb (hb.trans_le hp), visibleRb_of_not_run hr]
  exact congrArg Host.Outcome.next (noteRbRead_of_not_run hr)

/-- Outside a run a byte read returns the byte and changes nothing (R70). -/
theorem rbRead_of_not_run (hr : s.runState ≠ .run) (hp : s.RasterProvided)
    (ho : o < s.cfg.rbytes) : rbRead o s = .next (s.logRead (.byte (s.rb.rbByte o))) := by
  rw [rbRead, if_neg (not_not.2 ho), if_neg (not_not.2 (ho.trans_le hp)), visibleRb_of_not_run hr]
  exact congrArg Host.Outcome.next (noteRbRead_of_not_run hr)

/-- The colour of a cell, by the bit of its byte (R93, R120, R125). -/
theorem lut_extract (s : State) (i : Nat) :
    lut (s.extract i) = if ((s.pgByte (i / 8)).toNat >>> (i % 8)) % 2 = 1 then 0xFF0000FF#32
      else 0xFFFFFFFF#32 := by
  rw [State.extract, testBit_eq_shift _ (splitBit_lt i)]
  exact if_congr decide_eq_true_iff rfl rfl

/-- Settles O42: the loop invariant paints the pixel, and I is at most W*H. -/
theorem pixelReadReturnsItsLutWord : Obligations.PixelReadReturnsItsLutWord := by
  intro s e i rest h hloop hr hp hi ha
  have hcell : i < s.cfg.ncells := (hi.trans_le h.idx_le).trans_le h.nlim_le
  have hword := rbPixel_painted (hloop.pixels i hi) e
  rw [step_move ha, ← lut_extract s i, ← hword]
  exact rbReadPixel_of_not_run (s := s.setAgenda rest) e hr hp hcell

/-- Settles O55: by the byte order, of which `ByteOrder.lane` is the order of bytes. -/
theorem rasterReadsFollowTheByteOrder : Obligations.RasterReadsFollowTheByteOrder := by
  intro s rest hr hp
  refine ⟨fun o ho ha =>
      (step_move ha).trans (rbRead_of_not_run (s := s.setAgenda rest) hr hp ho),
    fun e i hi ha => ⟨s.rb.rbPixel e i,
      (step_move ha).trans (rbReadPixel_of_not_run (s := s.setAgenda rest) e hr hp hi),
      fun n hn => (laneByte_rbPixel s.rb e i hn).trans ?_⟩⟩
  cases e <;> rfl

/-- While BUSY a host sees the raster before the run or the raster as it is (HZ2). -/
theorem visibleRb_cases (s : State) : s.visibleRb = s.rb ∨ s.visibleRb = s.rbOld := by
  unfold State.visibleRb
  split
  · exact .inr rfl
  · exact .inl rfl

/-- Settles O46: by the two rasters a read may see. -/
theorem rasterReadWhileBusyIsOldOrNew : Obligations.RasterReadWhileBusyIsOldOrNew := by
  intro s e i rest ha hr hb hq
  refine ⟨s.visibleRb.rbPixel e i, ?_, ?_⟩
  · exact (visibleRb_cases s).imp (fun h => by rw [h]) fun h => by rw [h]
  · refine (step_move ha).trans ((rbReadPixel_backed (s := s.setAgenda rest) e hb hq).trans ?_)
    exact congrArg Host.Outcome.next (noteRbRead_of_run hr)

/-! ### Ownership -/

/-- A move that touches no buffer keeps the notes of a run (R229). -/
theorem owned_of_transition (tr : Transition m s t) (hr : s.runState = .run)
    (hm : ∀ x, m = some x → x.touchesBuffers = false) : t.owned = s.owned := by
  cases tr with
  | start _ _ _ hr' => rcases hr' with h | h <;> exact nomatch hr.symm.trans h
  | readRb _ hx =>
    rcases hx with ⟨o, hx⟩ | ⟨e, i, hx⟩ <;> exact nomatch hm _ hx
  | contendPg _ _ hx => exact nomatch hm _ hx
  | contendRb _ _ hx => exact nomatch hm _ hx
  | _ => rfl

/-- A host access that answers a next state has passed its two checks, of the offset and of the
memory behind the port. -/
theorem next_of_checks {p q : Prop} [Decidable p] [Decidable q] {f : Fault} {r : Refusal}
    {x : Result} (h : (if p then .fault f else if q then .refused r else x) = .next t) :
    x = .next t := by
  split at h
  · cases h
  · split at h
    · cases h
    · exact h

theorem pgWrite_next_of_run {v : Byte} (hr : s.runState = .run) (h : pgWrite o v s = .next t) :
    t = (s.setPg (s.pg.write o v)).touchPg o := by
  have h' := next_of_checks h
  rw [if_pos hr] at h'
  exact Outcome.next_inj h'

theorem rbWrite_next_of_run {v : Byte} (hr : s.runState = .run) (h : rbWrite o v s = .next t) :
    t = s.contendedWrite o v := by
  have h' := next_of_checks h
  rw [if_pos hr] at h'
  exact Outcome.next_inj h'

theorem rbRead_next (h : rbRead o s = .next t) : ∃ r, t = (s.logRead r).noteRbRead :=
  ⟨_, Outcome.next_inj (next_of_checks h)⟩

theorem rbReadPixel_next (h : rbReadPixel e i s = .next t) :
    ∃ r, t = (s.logRead r).noteRbRead :=
  ⟨_, Outcome.next_inj (next_of_checks h)⟩

/-- A read of RB while BUSY ends BuffersOwned (R229). -/
theorem owned_noteRbRead_of_run (hr : s.runState = .run) : s.noteRbRead.owned = false := by
  simp [State.owned, hr]

/-- An accepted move of the host on the buffers while BUSY is noted (HZ1, HZ2). -/
theorem owned_eq_false_of_takeMove {x : HostMove} {rest : List HostMove} (hr : s.runState = .run)
    (hx : x.touchesBuffers = true) (h : takeMove x rest s = .next t) : t.owned = false := by
  have hr' : (s.setAgenda rest).runState = .run := hr
  cases x with
  | pgPlace bs =>
    rw [takeMove, pgPlace, if_pos hr'] at h
    cases h
  | rbPlace bs =>
    rw [takeMove, rbPlace, if_pos hr'] at h
    cases h
  | pgWrite o v =>
    rw [pgWrite_next_of_run hr' h]
    rfl
  | rbWrite o v =>
    rw [rbWrite_next_of_run hr' h]
    simp [State.owned, State.unwritten]
  | rbRead o =>
    obtain ⟨r, rfl⟩ := rbRead_next h
    exact owned_noteRbRead_of_run hr
  | rbReadPixel e i =>
    obtain ⟨r, rfl⟩ := rbReadPixel_next h
    exact owned_noteRbRead_of_run hr
  | _ => cases hx

/-- What the host did stays noted until the next accepted UNPK (log 11). -/
theorem notes_of_transition (tr : Transition m s t) :
    ((∀ o ∈ s.pgTouched, o ∈ t.pgTouched) ∧ (∀ o ∈ s.rbTouched, o ∈ t.rbTouched) ∧
      (s.rbPeeked = true → t.rbPeeked = true)) ∨
    (s.Ready ∧ ∃ w, m = some (.csrWrite 0 w) ∧ decode w = .command .unpk) := by
  cases tr with
  | start w hm hd hr => exact .inr ⟨hr, w, hm, hd⟩
  | contendPg => exact .inl ⟨fun _ => List.mem_cons_of_mem _, fun _ => id, id⟩
  | contendRb => exact .inl ⟨fun _ => id, fun _ => List.mem_cons_of_mem _, id⟩
  | readRb => exact .inl ⟨fun _ => id, fun _ => id, fun h => by simp [h]⟩
  | _ => exact .inl ⟨fun _ => id, fun _ => id, id⟩

/-- Settles O56: by the transition a step is; a touching move is taken as itself. -/
theorem ownershipIsLostByTouchingTheBuffers : Obligations.OwnershipIsLostByTouchingTheBuffers := by
  refine ⟨fun s t hr ht => ?_, fun s t hr hst hm => ?_, fun s t hr hst hm => ?_,
    fun s t hst => ?_⟩
  · obtain rfl := Outcome.next_inj ((exec_unpk_ready hr).symm.trans ht)
    rfl
  · obtain ⟨l, tr⟩ := step_transition hst
    exact owned_of_transition (s := s.setAgenda l) tr hr hm
  · obtain ⟨x, hx, htouch⟩ := hm
    obtain ⟨rest, ha⟩ := List.head?_eq_some_iff.1 hx
    exact owned_eq_false_of_takeMove hr htouch ((step_move ha).symm.trans hst)
  · obtain ⟨l, tr⟩ := step_transition hst
    exact notes_of_transition (s := s.setAgenda l) tr

end Sys2Proof.Machine
end

section
/-! SUPPORT. The encoding (30_encoding.md R95 to R102): the legal words are exactly the encodings of
commands, and every other word is ILLEGAL for the reason its opcode gives. -/

namespace Sys2Proof

open Machine Laws

variable {w : Word} {i : Instr}

/-! ### Legal words -/

/-- Every command's word meets the constraints of its row (R97). -/
theorem instr_wellFormed (i : Instr) : i.wellFormed = true := by
  cases i with
  | nop => exact EncodingFields.nop.1
  | unpk => exact EncodingFields.unpk.1
  | btst b k => exact (EncodingFields.btst b k).1
  | abrt => exact EncodingFields.abrt.1

/-- Settles O1: `decode_encode` reads BTST's operands back from the fields of its word. -/
theorem encodedCommandsDecodeBack : Obligations.EncodedCommandsDecodeBack :=
  fun i => ⟨instr_wellFormed i, decode_encode i⟩

/-- A word decodes to a command exactly when it is that command's word. -/
theorem decode_eq_command_iff : decode w = .command i ↔ encode i = w := by
  constructor
  · intro h
    rcases decode_cases w with ⟨j, hw, hj⟩ | ⟨-, hill⟩
    · obtain rfl : j = i := Decoded.command.inj (hj.symm.trans h)
      exact hw.symm
    · exact nomatch h.symm.trans hill
  · rintro rfl
    exact decode_encode i

theorem exists_encode_eq_iff : (∃ i, encode i = w) ↔ wellFormedWord w = true := by
  constructor
  · rintro ⟨i, rfl⟩
    exact instr_wellFormed i
  · intro h
    rcases decode_cases w with ⟨i, hw, -⟩ | ⟨hill, -⟩
    · exact ⟨i, hw.symm⟩
    · exact nomatch h.symm.trans hill

/-- Settles O2: a word decodes to the command it encodes, and the encodings are the words that meet
their row's constraints. -/
theorem legalWordsAreExactlyTheEncodings : Obligations.LegalWordsAreExactlyTheEncodings := by
  refine fun w => ⟨fun _ => decode_eq_command_iff.1, ?_⟩
  simp only [decode_eq_command_iff, exists_encode_eq_iff]

/-! ### Rows of the opcode map -/

/-- The row of a command without operands has the full mask, so its match is the command's word. -/
theorem decode_eq_command_iff_full_mask :
    decode w = .command i ↔ w &&& 0xFFFFFFFF#32 = encode i := by
  rw [decode_eq_command_iff, and_full_mask, eq_comm]

/-- The operands of BTST are whatever its row leaves free (R96, R97). -/
theorem exists_btst_iff :
    (∃ b k, decode w = .command (.btst b k)) ↔ w &&& 0xFFFF0000#32 = 0x20000000#32 := by
  simp only [decode_eq_command_iff, btst_row_iff]
  constructor
  · rintro ⟨b, k, rfl⟩
    exact ⟨opField_formatC _ _ _, zeroField_formatC _ _ _⟩
  · rintro ⟨hop, hzero⟩
    have hw := (formatC_fields w).2 hzero
    rw [hop] at hw
    exact ⟨bField w, kField w, hw⟩

/-! ### Illegal words -/

theorem decode_of_not_wellFormed (h : wellFormedWord w = false) :
    decode w = .illegal (if opField w < 4#4 then .reservedBits else .reservedOpcode) := by
  rcases decode_cases w with ⟨i, rfl, -⟩ | ⟨-, hill⟩
  · exact nomatch h.symm.trans (instr_wellFormed i)
  · exact hill

/-- `w[15:0]` is the two operand fields side by side (R95). -/
theorem kField_append_bField (w : Word) : kField w ++ bField w = w.extractLsb' 0 16 :=
  BitVec.extractLsb'_append_extractLsb'_eq_extractLsb' rfl

/-- The two grounds on which a word of a defined opcode is ILLEGAL (R99). -/
theorem wellFormedWord_eq_false_of_bits
    (h : zeroField w ≠ 0#12 ∨ (opField w ≠ 2#4 ∧ w.extractLsb' 0 16 ≠ 0#16)) :
    wellFormedWord w = false := by
  rcases h with hzero | ⟨hop, hlow⟩
  · simp [wellFormedWord, hzero]
  · have hoperands : kField w = 0#8 → bField w ≠ 0#8 := fun hk hb =>
      hlow (by rw [← kField_append_bField, hk, hb, BitVec.zero_append_zero])
    simpa [wellFormedWord, hop] using fun _ _ => hoperands

theorem wellFormedWord_eq_false_of_opcode (h : 4#4 ≤ opField w) : wellFormedWord w = false := by
  simp [wellFormedWord, BitVec.not_lt.2 h]

/-- A reserved opcode is the first ground the decoder gives (R98, R100). -/
theorem decode_of_reserved_opcode (h : 4#4 ≤ opField w) : decode w = .illegal .reservedOpcode := by
  rw [decode_of_not_wellFormed (wellFormedWord_eq_false_of_opcode h), if_neg (BitVec.not_lt.2 h)]

/-- In a word of a defined opcode the must-be-zero bits are the ground (R99, R100). -/
theorem decode_of_reserved_bits (hop : opField w < 4#4)
    (h : zeroField w ≠ 0#12 ∨ (opField w ≠ 2#4 ∧ w.extractLsb' 0 16 ≠ 0#16)) :
    decode w = .illegal .reservedBits := by
  rw [decode_of_not_wellFormed (wellFormedWord_eq_false_of_bits h), if_pos hop]

/-- Settles O3: by the masks of the four rows; opcodes 4 to 15 are ILLEGAL. -/
theorem opcodeRowsSelectTheCommand : Obligations.OpcodeRowsSelectTheCommand := by
  refine fun w => ⟨decode_eq_command_iff_full_mask, decode_eq_command_iff_full_mask,
    exists_btst_iff, fun b k h => ?_, decode_eq_command_iff_full_mask, fun h i hi => ?_⟩
  · obtain rfl := decode_eq_command_iff.1 h
    exact ⟨(bField_formatC _ _ _).symm, (kField_formatC _ _ _).symm⟩
  · exact nomatch hi.symm.trans (decode_of_reserved_opcode h)

/-- Settles O4: such a word meets no row's constraints, and the opcode decides the reason. -/
theorem reservedWordsAreIllegal : Obligations.ReservedWordsAreIllegal :=
  fun _ => ⟨decode_of_reserved_opcode, decode_of_reserved_bits⟩

/-- Settles O5: nine closed words. -/
theorem specExampleWordsDecode : Obligations.SpecExampleWordsDecode := by
  refine ⟨?_, ?_, ?_, ?_, ?_, ?_, ?_, ?_, ?_⟩ <;> decide

end Sys2Proof
end

section
/-! SUPPORT. Who moves next (42_unpack_sequencer.md R171, R231), and what one cell step of an
undisturbed run does (R163). -/

namespace Sys2Proof.Machine

variable {s : State} {rest : List HostMove}

/-! ### The schedule -/

/-- A waiting host lets the engine step while a run is in progress (R103). -/
theorem takeMove_wait_of_run (hr : s.runState = .run) : takeMove .wait rest s = engineStep s :=
  if_pos hr

/-- A waiting host goes on once no run is in progress (R103). -/
theorem takeMove_wait_of_not_run (hr : s.runState ≠ .run) :
    takeMove .wait rest s = .next (s.setAgenda rest) :=
  if_neg hr

/-- Settles O9: by the first move of the agenda. -/
theorem theScheduleChoosesWhoMoves : Obligations.TheScheduleChoosesWhoMoves :=
  fun _ _ => ⟨step_idle_agenda, step_move,
    fun ha hr => (step_move ha).trans (takeMove_wait_of_run hr),
    fun ha hr => (step_move ha).trans (takeMove_wait_of_not_run hr)⟩

/-! ### The cell step -/

/-- The value of cell i as a number (R120, R125 law 1). -/
theorem extract_toNat (s : State) (i : Nat) :
    (s.extract i).toNat = ((s.pgByte (i / 8)).toNat >>> (i % 8)) % 2 := by
  rw [State.extract, testBit_eq_shift _ (splitBit_lt i)]
  rcases Nat.mod_two_eq_zero_or_one ((s.pgByte (i / 8)).toNat >>> (i % 8)) with h | h <;>
    simp [splitByte, splitBit, h]

/-- CNT is at most I, which is below NLIM, so counting a cell does not wrap (R142, R172). -/
theorem processCell_cnt_toNat (h : s.Inv) (hi : s.cellIdx < s.nlim) (hu : s.unwritten = true) :
    s.processCell.cnt.toNat = s.cnt.toNat + (s.extract s.cellIdx.toNat).toNat := by
  have hi' : s.cellIdx.toNat < s.nlim.toNat := hi
  have hnlim := s.nlim.isLt
  have hcnt := h.cnt_le
  have hbit := Bool.toNat_le (s.extract s.cellIdx.toNat)
  rw [State.processCell_cnt, fetchedBit_unwritten hu, BitVec.toNat_add, bitWord_toNat]
  exact Nat.mod_eq_of_lt (by omega)

/-- The four bytes of the cell: R and A full, G and B 0 exactly where the cell is set (R93, R144). -/
theorem processCell_paints (hu : s.unwritten = true) :
    s.processCell.rb.rbByte (pixelOffset s.cellIdx.toNat) = 255#8 ∧
      s.processCell.rb.rbByte (pixelOffset s.cellIdx.toNat + 1) =
        (if (s.extract s.cellIdx.toNat).toNat = 1 then 0#8 else 255#8) ∧
      s.processCell.rb.rbByte (pixelOffset s.cellIdx.toNat + 2) =
        (if (s.extract s.cellIdx.toNat).toNat = 1 then 0#8 else 255#8) ∧
      s.processCell.rb.rbByte (pixelOffset s.cellIdx.toNat + 3) = 255#8 := by
  have hlane := fun n (hn : n < 4) => processCell_byte_unwritten hu hn
  refine ⟨(hlane 0 (by omega)).trans (lut_red _), (hlane 1 (by omega)).trans ?_,
    (hlane 2 (by omega)).trans ?_, (hlane 3 (by omega)).trans (lut_alpha _)⟩
  · simp only [lut_green, Bool.toNat_eq_one]
  · simp only [lut_blue, Bool.toNat_eq_one]

/-- Settles O21: under the invariant and the launch premises the engine's step is `processCell`. -/
theorem cellStepPaintsOneCell : Obligations.CellStepPaintsOneCell := by
  intro s h hr hi hl hp hu
  refine ⟨s.processCell, engineStep_processCell h hr hi hl hp, ?_, fun o => processCell_other s,
    toNat_add_one_of_lt hi, rfl, rfl, rfl, rfl, rfl, rfl, rfl, rfl, rfl, rfl, rfl, rfl, rfl⟩
  intro bit hbit
  obtain rfl := hbit.trans (extract_toNat s _).symm
  obtain ⟨hred, hgreen, hblue, halpha⟩ := processCell_paints hu
  exact ⟨hred, hgreen, hblue, halpha, processCell_cnt_toNat h hi hu⟩

end Sys2Proof.Machine
end

section
/-! SUPPORT. BIX (40_bit_index_extractor.md R120 to R125): the index split, the laws of TEST, and the
command BTST, whose word puts its operands next to its opcode. -/

namespace Sys2Proof.Machine

/-! ### SPLIT -/

/-- Settles O19: 8 is 2^3, so the shift and the mask are the quotient and the remainder. -/
theorem splitRecombinesToTheIndex : Obligations.SplitRecombinesToTheIndex :=
  fun i => ⟨(Nat.shiftRight_eq_div_pow i 3).symm, (Nat.and_two_pow_sub_one_eq_mod i 3).symm,
    (Nat.div_add_mod i 8).symm, Nat.le_of_lt_succ (splitBit_lt i)⟩

/-! ### The laws of TEST -/

/-- TEST is the bit of the byte as a number (R122). -/
theorem testBit_eq_toNat_testBit (b : Byte) {k : Nat} (hk : k < 8) :
    testBit b k = b.toNat.testBit k :=
  testBit_eq_getLsbD b hk

/-- A bit of a number as a number is the shifted number's last bit (R9). -/
theorem toNat_testBit_eq_shift (n k : Nat) : (n.testBit k).toNat = n >>> k &&& 1 := by
  rw [Nat.toNat_testBit, Nat.and_one_is_mod, Nat.shiftRight_eq_div_pow]

/-- The mask of bit k leaves something exactly when the bit is 1 (R125 law 2). -/
theorem and_shiftLeft_ne_zero_iff (n k : Nat) : n &&& (1 <<< k) ≠ 0 ↔ n >>> k &&& 1 = 1 := by
  rw [Nat.one_shiftLeft, Nat.and_two_pow, ← toNat_testBit_eq_shift]
  cases n.testBit k <;> simp

/-- The low m bits of a number are the sum of their weights (R8). -/
theorem mod_two_pow_eq_sum_bits (n m : Nat) :
    n % 2 ^ m = ((List.range m).map fun k => (n.testBit k).toNat * 2 ^ k).sum := by
  induction m with
  | zero => simp [Nat.mod_one]
  | succ m ih =>
    rw [Nat.mod_pow_succ, ← Nat.toNat_testBit, Nat.mul_comm, List.range_succ, List.map_append,
      List.sum_append_nat, ← ih, List.map_singleton, List.sum_singleton]

/-- Counting is summing indicators (R125 law 4). -/
theorem countP_eq_sum_toNat {α : Type} (p : α → Bool) (l : List α) :
    l.countP p = (l.map fun a => (p a).toNat).sum := by
  induction l with
  | nil => rfl
  | cons a l ih =>
    rw [List.countP_cons, List.map_cons, List.sum_cons, ih, Nat.add_comm]
    cases p a <;> rfl

/-- A sum over the bit indices of a byte takes TEST or the byte's bits alike. -/
theorem map_range_testBit (b : Byte) (f : Bool → Nat → Nat) :
    ((List.range 8).map fun k => f (testBit b k) k) =
      (List.range 8).map fun k => f (b.toNat.testBit k) k :=
  List.map_congr_left fun _ hk => by rw [testBit_eq_toNat_testBit b (List.mem_range.1 hk)]

/-- Settles O18: in its domain TEST is a bit of the byte. -/
theorem bitTestLaws : Obligations.BitTestLaws := by
  refine fun b => ⟨fun k hk => ?_, fun k _ => and_shiftLeft_ne_zero_iff b.toNat k, ?_, ?_⟩
  · rw [testBit_eq_toNat_testBit b hk, toNat_testBit_eq_shift]
  · rw [map_range_testBit b fun c k => c.toNat * 2 ^ k, ← mod_two_pow_eq_sum_bits]
    exact (Nat.mod_eq_of_lt b.isLt).symm
  · rw [map_range_testBit b fun c _ => c.toNat]
    exact countP_eq_sum_toNat _ _

/-! ### BTST -/

/-- BTST's word by shifts (R95, R97). -/
theorem encode_btst (b k : Byte) :
    encode (.btst b k) = 0x20000000#32 ||| (k.setWidth 32 <<< 8) ||| b.setWidth 32 := by
  have hop : BitVec.setWidth 32 2#4 <<< (12 + (8 + 8)) = 0x20000000#32 := by decide
  have hzero : BitVec.setWidth 32 0#12 <<< (8 + 8) = 0#32 := by decide
  rw [← BitVec.setWidth_eq (encode (.btst b k)), encode, formatC]
  simp only [BitVec.setWidth_append_eq_shiftLeft_setWidth_or]
  rw [hop, hzero, BitVec.zero_or, BitVec.or_assoc]

variable {s : State} {b k : Byte} {w : Word} {rest : List HostMove}

/-- In FAULT the command is ignored (R160). -/
theorem exec_btst_of_fault (hr : s.runState = .fault) : exec (.btst b k) s = .next s :=
  if_pos hr

theorem exec_btst_of_le (hr : s.runState ≠ .fault) (hk : k.toNat ≤ 7) :
    exec (.btst b k) s = .next (s.setResult (testBit b k.toNat)) :=
  (if_neg hr).trans (if_neg (Nat.not_lt.2 hk))

theorem exec_btst_of_gt (hr : s.runState ≠ .fault) (hk : 7 < k.toNat) :
    exec (.btst b k) s = .next (s.raise .rangeFault (encode (.btst b k))) :=
  (if_neg hr).trans (if_pos hk)

/-- A CMD write of an ILLEGAL word outside FAULT raises IllegalCommand (R160, R191). -/
theorem step_illegal {why : Illegal} (ha : s.agenda = .csrWrite 0 w :: rest)
    (hd : decode w = .illegal why) (hr : s.runState ≠ .fault) :
    step s = .next ((s.setAgenda rest).raise .illegalCommand w) := by
  rw [step_csrWrite ha]
  simp [csrWrite, command, hd, hr]

/-- Settles O13: the illegal word is one of R99, and a legal one runs by the range of its k. -/
theorem btstWritesTheTestedBit : Obligations.BtstWritesTheTestedBit := by
  refine ⟨fun s w rest ha hop hzero hr => ?_, fun s b k => ⟨encode_btst b k, exec_btst_of_fault,
    fun hr hk => ?_, fun hr hk => ?_⟩⟩
  · have hdefined : opField w < 4#4 := lt_of_eq_of_lt hop (by decide)
    exact step_illegal ha (decode_of_reserved_bits hdefined (.inl hzero)) hr
  · rw [exec_btst_of_le hr hk, testBit_eq_shift b (Nat.lt_succ_of_le hk)]
    rfl
  · rw [exec_btst_of_gt hr hk, encode_btst]
    rfl

end Sys2Proof.Machine
end

section
/-! SUPPORT. RPW (41_raster_pixel_writer.md R143): the coordinates of a cell. A row's cells lie
between two multiples of W, so division by W splits an index into its row and its column. -/

namespace Sys2Proof.Machine

variable {c : Config} {i x y : Nat}

/-! ### From a cell to its coordinates and back -/

theorem column_lt_width (hc : c.wellFormed = true) (i : Nat) : column c i < c.width := by
  obtain ⟨hw, -, -⟩ := wellFormed_parts hc
  exact Nat.mod_lt i hw

theorem row_lt_height (hi : i < c.ncells) : row c i < c.height :=
  Nat.div_lt_of_lt_mul hi

@[simp] theorem cellAt_column_row (c : Config) (i : Nat) : cellAt c (column c i) (row c i) = i :=
  Nat.div_add_mod' i c.width

/-! ### From coordinates to their cell and back -/

/-- A cell of row y stands before the first cell of row y + 1. -/
theorem cellAt_lt_next_row (hx : x < c.width) (y : Nat) : cellAt c x y < (y + 1) * c.width := by
  rw [Nat.add_one_mul]
  exact Nat.add_lt_add_left hx _

theorem cellAt_lt_ncells (hx : x < c.width) (hy : y < c.height) : cellAt c x y < c.ncells :=
  calc cellAt c x y < (y + 1) * c.width := cellAt_lt_next_row hx y
    _ ≤ c.height * c.width := Nat.mul_le_mul_right _ hy
    _ = c.ncells := Nat.mul_comm _ _

theorem column_cellAt (hx : x < c.width) (y : Nat) : column c (cellAt c x y) = x :=
  Nat.mul_add_mod_of_lt hx

theorem row_cellAt (hx : x < c.width) (y : Nat) : row c (cellAt c x y) = y :=
  Nat.div_eq_of_lt_le (Nat.le_add_right _ _) (cellAt_lt_next_row hx y)

/-- Settles O20: column and row undo `cellAt` on the board, and `cellAt` undoes them. -/
theorem cellsAndCoordinatesCorrespond : Obligations.CellsAndCoordinatesCorrespond :=
  fun c hc => ⟨fun i hi => ⟨column_lt_width hc i, row_lt_height hi, cellAt_column_row c i⟩,
    fun _ y hx hy => ⟨cellAt_lt_ncells hx hy, column_cellAt hx y, row_cellAt hx y, rfl⟩⟩

end Sys2Proof.Machine
end

section
/-! SUPPORT. The loop invariant (42_unpack_sequencer.md R169): an accepted UNPK establishes it, a
cell step of a run on unwritten buffers keeps it, and no other transition of such a run touches
it. -/

namespace Sys2Proof.Machine

variable {s t : State} {m : Option HostMove} {n : Nat}

theorem loopInv_startRun (s : State) : s.startRun.LoopInv where
  pixels := fun _ hj => nomatch hj
  rest := fun _ _ => rfl
  count := rfl

/-- A cell step paints cell I and counts it, and leaves the pixels on either side (R163, R169). -/
theorem loopInv_processCell (hi : s.Inv) (hlt : s.cellIdx < s.nlim) (hu : s.unwritten = true)
    (h : s.LoopInv) : s.processCell.LoopInv := by
  have hidx : s.processCell.cellIdx.toNat = s.cellIdx.toNat + 1 := toNat_add_one_of_lt hlt
  refine ⟨fun j hj n hn => ?_, fun o ho => ?_, ?_⟩
  · rw [hidx] at hj
    rcases Nat.lt_succ_iff_lt_or_eq.1 hj with hbelow | rfl
    · rw [processCell_other s (.inl (by simp only [pixelOffset]; omega))]
      exact h.pixels j hbelow n hn
    · exact processCell_byte_unwritten hu hn
  · rw [hidx, pixelOffset, Nat.mul_add_one] at ho
    rw [processCell_other s (.inr ho)]
    exact h.rest o (Nat.le_of_add_right_le ho)
  · rw [processCell_cnt_toNat hi hlt hu, hidx, List.range_succ, List.countP_append, h.count]
    cases hbit : s.extract s.cellIdx.toNat <;> simp [hbit]

/-- A transition other than a start or a cell step that leaves both buffers unwritten touches
nothing the loop invariant names. -/
theorem runOnTrack_of_transition (tr : Transition m s t) (hi : s.Inv) (h : s.RunOnTrack) :
    t.RunOnTrack := by
  intro hrun hu
  cases tr with
  | stay => exact h hrun hu
  | cell _ hr hlt => exact loopInv_processCell hi hlt hu (h hr hu)
  | start => exact loopInv_startRun s
  | bit | setLen | read | readRb =>
    exact ⟨(h hrun hu).pixels, (h hrun hu).rest, (h hrun hu).count⟩
  | placePg _ _ hr | placeRb _ _ hr => exact absurd hrun hr
  | writePg _ _ _ hr | writeRb _ _ _ hr => exact absurd hrun hr
  | contendPg => exact nomatch (unwritten_iff.1 hu).1
  | contendRb => exact nomatch (unwritten_iff.1 hu).2
  | _ => exact nomatch hrun

/-- Settles O30: the transition starts from the state with its move taken, on which the loop
invariant does not depend. -/
theorem loopInvariantIsKept : Obligations.LoopInvariantIsKept := by
  refine ⟨fun s t hr ht => ?_, fun s t hi h hst => ?_⟩
  · obtain rfl := Outcome.next_inj ((exec_unpk_ready hr).symm.trans ht)
    exact loopInv_startRun s
  · obtain ⟨l, tr⟩ := step_transition hst
    exact runOnTrack_of_transition tr (inv_setAgenda hi l) fun hrun hu =>
      ⟨(h hrun hu).pixels, (h hrun hu).rest, (h hrun hu).count⟩

/-- The cell steps of an undisturbed run keep the loop invariant up to its end. -/
theorem loopInv_processCells (h : s.Undisturbed) (hn : s.cellIdx.toNat + n = s.nlim.toNat)
    (hloop : s.LoopInv) : (State.processCell^[n] s).LoopInv := by
  induction n generalizing s with
  | zero => exact hloop
  | succ n ih =>
    obtain ⟨hlt, hn'⟩ := processCell_remaining hn
    exact ih (undisturbed_processCell h hlt) hn' (loopInv_processCell h.inv hlt h.unwritten hloop)

end Sys2Proof.Machine
end

section
/-! SUPPORT. What a completed run achieves (42_unpack_sequencer.md R168): the loop invariant at
I = NLIM, read together with what UNPK has fixed for the whole run. -/

namespace Sys2Proof.Machine

variable {s t u : State} {m : Option HostMove} {k : Nat} {grid : Nat → Byte}

/-! ### What stands throughout a run -/

/-- The part of the state that an accepted UNPK leaves fixed until its run completes, while the host
keeps to the premises of R229. -/
structure Launch where
  cfg : Config
  nlim : Word
  pgLen : Word
  short : Bool
  long : Bool
  cause : BitVec 3
  finfo : Word
  pg : Buffer
  rbOld : Buffer

/-- The launch that s belongs to. -/
def State.launch (s : State) : Launch where
  cfg := s.cfg
  nlim := s.nlim
  pgLen := s.pgLen
  short := s.short
  long := s.long
  cause := s.cause
  finfo := s.finfo
  pg := s.pg
  rbOld := s.rbOld

/-! ### The end of a completed run -/

/-- Items 1 to 5 of R168, of a run launched in s, on the PackedGrid `grid`, that has ended in u. -/
structure State.Achieves (s u : State) (grid : Nat → Byte) : Prop where
  nlim : u.nlim.toNat = min (s.cfg.width * s.cfg.height) (8 * s.pgLen.toNat)
  pixels : ∀ i < u.nlim.toNat, ∀ bit : Nat, bit = ((grid (i / 8)).toNat >>> (i % 8)) % 2 →
    u.rb.rbByte (4 * i) = 255#8 ∧
    u.rb.rbByte (4 * i + 1) = (if bit = 1 then 0#8 else 255#8) ∧
    u.rb.rbByte (4 * i + 2) = (if bit = 1 then 0#8 else 255#8) ∧
    u.rb.rbByte (4 * i + 3) = 255#8
  rest : ∀ o, 4 * u.nlim.toNat ≤ o → u.rb.rbByte o = s.rb.rbByte o
  count : u.cnt.toNat = (List.range u.nlim.toNat).countP
    fun i => decide (((grid (i / 8)).toNat >>> (i % 8)) % 2 = 1)
  short : u.short = true ↔ 8 * s.pgLen.toNat < s.cfg.width * s.cfg.height
  long : u.long = true ↔ s.cfg.width * s.cfg.height < 8 * s.pgLen.toNat
  cfg : u.cfg = s.cfg
  pgLen : u.pgLen = s.pgLen
  cause : u.cause = s.cause
  finfo : u.finfo = s.finfo
  pg : u.pg = s.pg

/-- The four bytes of cell i under the loop invariant (R93, R169). -/
theorem loopInv_paints (h : u.LoopInv) {i : Nat} (hi : i < u.cellIdx.toNat) :
    u.rb.rbByte (4 * i) = 255#8 ∧
    u.rb.rbByte (4 * i + 1) = (if (u.extract i).toNat = 1 then 0#8 else 255#8) ∧
    u.rb.rbByte (4 * i + 2) = (if (u.extract i).toNat = 1 then 0#8 else 255#8) ∧
    u.rb.rbByte (4 * i + 3) = 255#8 := by
  have hlane := h.pixels i hi
  refine ⟨(hlane 0 (by omega)).trans (lut_red _), (hlane 1 (by omega)).trans ?_,
    (hlane 2 (by omega)).trans ?_, (hlane 3 (by omega)).trans (lut_alpha _)⟩
  · simp only [lut_green, Bool.toNat_eq_one]
  · simp only [lut_blue, Bool.toNat_eq_one]

/-- The value of cell i as a test of its bit (R120, R122). -/
theorem extract_eq_decide (s : State) (i : Nat) :
    s.extract i = decide (((s.pgByte (i / 8)).toNat >>> (i % 8)) % 2 = 1) :=
  testBit_eq_shift _ (splitBit_lt i)

/-- The loop invariant at I = NLIM is R168 (R169). -/
theorem achieves_of_loopInv (hc : s.cfg.wellFormed = true)
    (hgrid : ∀ a < s.pgLen.toNat, s.pgByte a = grid a) (h : u.LoopInv)
    (hidx : u.cellIdx = u.nlim) (hu : u.launch = s.startRun.launch) : s.Achieves u grid := by
  have hpg : u.pg = s.pg := congrArg Launch.pg hu
  have hold : u.rbOld = s.rb := congrArg Launch.rbOld hu
  have hshort : u.short = shortFlag s.cfg s.pgLen := congrArg Launch.short hu
  have hlong : u.long = longFlag s.cfg s.pgLen := congrArg Launch.long hu
  have hnlim : u.nlim.toNat = runLimit s.cfg s.pgLen := by
    rw [show u.nlim = s.startRun.nlim from congrArg Launch.nlim hu, startRun_nlim_toNat hc]
  have hcell : ∀ i < u.nlim.toNat, u.pgByte (i / 8) = grid (i / 8) := fun i hi => by
    have hbits : runLimit s.cfg s.pgLen ≤ 8 * s.pgLen.toNat := runLimit_le_bits
    rw [← hgrid (i / 8) (by omega), State.pgByte, hpg, State.pgByte]
  exact {
    nlim := hnlim
    pixels := fun i hi bit hbit => by
      rw [← hcell i hi, ← extract_toNat] at hbit
      exact hbit ▸ loopInv_paints h (hidx ▸ hi)
    rest := fun o ho => by
      rw [h.rest o (hidx ▸ ho), hold]
    count := by
      rw [h.count, hidx]
      refine List.countP_congr fun i hi => ?_
      rw [extract_eq_decide, hcell i (List.mem_range.1 hi)]
    short := hshort ▸ shortFlag_iff
    long := hlong ▸ longFlag_iff
    cfg := congrArg Launch.cfg hu
    pgLen := congrArg Launch.pgLen hu
    cause := congrArg Launch.cause hu
    finfo := congrArg Launch.finfo hu
    pg := hpg }

/-- Settles O32: the undisturbed run is N cell steps, which keep the loop invariant, and the
completion step. -/
theorem completedRunPaintsEveryCell : Obligations.CompletedRunPaintsEveryCell := by
  intro s h hr ha hl hp
  have hstart := undisturbed_startRun h hr ha hl hp
  have hcells : s.startRun.cellIdx.toNat + runLimit s.cfg s.pgLen = s.startRun.nlim.toNat := by
    rw [startRun_nlim_toNat h.cfg_ok, State.startRun_cellIdx]
    exact Nat.zero_add _
  obtain ⟨hrun, -, hidx⟩ := runFor_undisturbed hstart hcells
  have hloop := loopInv_processCells hstart hcells (loopInv_startRun s)
  obtain ⟨i, c, m, hframe⟩ := processCells_frame (s := s.startRun) rfl (runLimit s.cfg s.pgLen)
  rw [hframe] at hrun hidx hloop
  have hend := achieves_of_loopInv (grid := s.pgByte) h.cfg_ok (fun _ _ => rfl)
    (loopInv_setRunState hloop .done) hidx rfl
  exact ⟨s.startRun, _, exec_unpk_ready hr, hrun, rfl, hend.nlim, hidx, hend.pixels, hend.rest,
    hend.count, hend.short, hend.long, hend.pg, hend.pgLen, rfl, hend.cause, hend.finfo, rfl⟩

/-! ### A run beside a host that keeps to R229 -/

/-- A run in progress that meets the invariants so far, with a host that keeps BuffersOwned and
NoInterference of R229 from here on. -/
structure State.QuietRun (s : State) : Prop where
  inv : s.Inv
  running : s.runState = .run
  owned : s.owned = true
  loopInv : s.LoopInv
  buffersOwned : s.BuffersOwned
  noInterference : s.NoInterference

theorem inRun_zero (hr : s.runState = .run) : s.InRun 0 s :=
  ⟨rfl, fun j hj v hv => by
    obtain rfl := Nat.le_zero.1 hj
    exact Outcome.next_inj hv ▸ hr⟩

/-- Beside such a host a transition of the run keeps the launch, and ends the run only by completing
it at I = NLIM. -/
theorem launch_of_transition (tr : Transition m s t) (h : s.Inv) (hr : s.runState = .run)
    (htouch : ∀ x, m = some x → x.touchesBuffers = false)
    (hinterf : ∀ x, m = some x → x.interferes = false) :
    t.launch = s.launch ∧
      (t.runState = .run ∨ (t.runState = .done ∧ t.cellIdx = t.nlim)) := by
  have hword : ∀ w, m = some (.csrWrite 0 w) → interferingWord w = false := fun _ hm => hinterf _ hm
  cases tr with
  | stay | cell | bit | read => exact ⟨rfl, .inl hr⟩
  | complete _ _ hi => exact ⟨rfl, .inr ⟨rfl, hi⟩⟩
  | bounds _ _ hi hout =>
    obtain ⟨ha, hb⟩ := cell_in_bounds h hr hi
    exact absurd hout (not_or.2 ⟨not_not.2 ha, not_not.2 hb⟩)
  | start _ _ _ hr' | setLen _ _ hr' => rcases hr' with h' | h' <;> exact nomatch hr.symm.trans h'
  | busy w hm hd | illegal w _ hm hd | abort w hm hd =>
    exact absurd (hword w hm) (by simp [interferingWord, hd])
  | range w _ _ hm hd hk => exact absurd (hword w hm) (by simp [interferingWord, hd, hk])
  | reset hm => exact nomatch hinterf _ hm
  | readRb _ hm => rcases hm with ⟨o, hm⟩ | ⟨e, i, hm⟩ <;> exact nomatch htouch _ hm
  | placePg _ hm | placeRb _ hm => exact nomatch htouch _ hm
  | writePg _ _ hm | contendPg _ _ hm | writeRb _ _ hm | contendRb _ _ hm =>
    exact nomatch htouch _ hm

/-- The run stays quiet from state to state while it lasts. -/
theorem quietRun_step (h : s.QuietRun) (hst : step s = .next t) (hr : t.runState = .run) :
    t.QuietRun := by
  obtain ⟨l, tr⟩ := step_transition hst
  have howned : t.owned = true :=
    (owned_of_transition (s := s.setAgenda l) tr h.running
      (h.buffersOwned 0 s (inRun_zero h.running))).trans h.owned
  have htrack : t.RunOnTrack :=
    loopInvariantIsKept.2 s t h.inv (fun _ _ => h.loopInv) hst
  exact {
    inv := everyStepKeepsTheInvariant s t h.inv hst
    running := hr
    owned := howned
    loopInv := htrack hr (unwritten_of_owned howned)
    buffersOwned := fun k u hu => h.buffersOwned (k + 1) u (inRun_succ h.running hst hu)
    noInterference := fun k u hu => h.noInterference (k + 1) u (inRun_succ h.running hst hu) }

/-- One step of a quiet run keeps the launch, and ends the run only by completing it, with the loop
invariant at I = NLIM. -/
theorem quietRun_step_cases (h : s.QuietRun) (hst : step s = .next t) :
    t.launch = s.launch ∧
      (t.runState = .run ∨ (t.runState = .done ∧ t.cellIdx = t.nlim ∧ t.LoopInv)) := by
  have hnow := inRun_zero h.running
  obtain ⟨l, tr⟩ := step_transition hst
  obtain ⟨hlaunch, hrun | ⟨hdone, hidx⟩⟩ := launch_of_transition (s := s.setAgenda l) tr
    (inv_setAgenda h.inv l) h.running (h.buffersOwned 0 s hnow) (h.noInterference 0 s hnow)
  · exact ⟨hlaunch, .inl hrun⟩
  · have hreset : s.agenda.head? ≠ some .reset := fun hm => nomatch h.noInterference 0 s hnow _ hm
    exact ⟨hlaunch, .inr ⟨hdone, hidx, endedRunKeepsTheLoopInvariant s t h.running
      (unwritten_of_owned h.owned) h.loopInv hreset hst (by simp [hdone])⟩⟩

/-- A run of k + 1 transitions that has a next state begins with a step. -/
theorem exists_step_of_runFor (h : s.runFor (k + 1) = .next u) :
    ∃ t, step s = .next t ∧ t.runFor k = .next u := by
  by_cases hs : ∃ t, step s = .next t
  · obtain ⟨t, ht⟩ := hs
    exact ⟨t, ht, (runFor_succ k ht).symm.trans h⟩
  · exact absurd h (runFor_stop k (not_exists.1 hs) u)

/-- The first state of a quiet run with STATE != RUN is DONE, with the loop invariant at I = NLIM
and the launch as it was (R168, R169). -/
theorem quietRun_ends (h : s.QuietRun)
    (hbusy : ∀ j < k, ∀ v, s.runFor j = .next v → v.runState = .run)
    (hu : s.runFor k = .next u) (hend : u.runState ≠ .run) :
    u.runState = .done ∧ u.cellIdx = u.nlim ∧ u.LoopInv ∧ u.launch = s.launch := by
  induction k generalizing s with
  | zero => exact absurd (Outcome.next_inj hu ▸ h.running) hend
  | succ k ih =>
    obtain ⟨t, hst, hu⟩ := exists_step_of_runFor hu
    obtain ⟨hlaunch, hrun | ⟨hdone, hidx, hloop⟩⟩ := quietRun_step_cases h hst
    · obtain ⟨hdone, hidx, hloop, hlaunch'⟩ := ih (quietRun_step h hst hrun)
        (fun j hj v hv => hbusy (j + 1) (by omega) v ((runFor_succ j hst).trans hv)) hu
      exact ⟨hdone, hidx, hloop, hlaunch'.trans hlaunch⟩
    · cases k with
      | zero =>
        obtain rfl := Outcome.next_inj hu
        exact ⟨hdone, hidx, hloop, hlaunch⟩
      | succ k =>
        exact nomatch hdone.symm.trans (hbusy 1 (by omega) t (runFor_succ 0 hst))

/-- Settles O52: the started run is quiet, so the loop invariant is there at its end. -/
theorem completedRunUnderEverySchedule : Obligations.CompletedRunUnderEverySchedule := by
  intro s t u grid k h hr hlen hgrid ht hb hn hbusy hu hend
  obtain rfl : t = s.startRun := Outcome.next_inj ((exec_unpk_ready hr).symm.trans ht)
  have hquiet : s.startRun.QuietRun :=
    ⟨inv_startRun h hr, rfl, rfl, loopInv_startRun s, hb, hn⟩
  obtain ⟨hdone, hidx, hloop, hlaunch⟩ := quietRun_ends hquiet hbusy hu hend
  have hbytes : ∀ a < s.pgLen.toNat, s.pgByte a = grid.getD a 0 := fun a ha => by
    have ha' : a < grid.length := hlen ▸ ha
    rw [hgrid a ha', List.getD_eq_getElem _ _ ha']
  have hall := achieves_of_loopInv h.cfg_ok hbytes hloop hidx hlaunch
  rw [State.LenSet] at hlen
  rw [← hlen]
  exact ⟨hdone, hall.nlim, hidx, hall.pixels, hall.rest, hall.count, hall.short, hall.long, hall.pg,
    hall.pgLen, hall.cause, hall.finfo, hall.cfg⟩

end Sys2Proof.Machine
end

section
/-! SUPPORT. The sequencer's commands and its state diagram (42_unpack_sequencer.md R160 to R167,
R196): what each move does to STATE, and what FAULT ignores. -/

namespace Sys2Proof.Machine

variable {s t : State} {m : Option HostMove} {w : Word}

/-! ### NOP, ABRT and the CSR reads -/

/-- Settles O10: by its meaning, which reads no state. -/
theorem nopChangesNothing : Obligations.NopChangesNothing :=
  ⟨by decide, fun _ => rfl⟩

theorem exec_abrt_of_busy_or_done (hr : s.runState = .run ∨ s.runState = .done) :
    exec .abrt s = .next (s.setRunState .idle) := by
  rcases hr with hr | hr <;> simp [exec, execAbrt, hr]

theorem exec_abrt_ignored (hr : s.runState = .idle ∨ s.runState = .fault) :
    exec .abrt s = .next s := by
  rcases hr with hr | hr <;> simp [exec, execAbrt, hr]

/-- `w[27:0]` is the must-be-zero field above the two operand fields (R95). -/
theorem zeroField_append_operands (w : Word) :
    zeroField w ++ w.extractLsb' 0 16 = w.extractLsb' 0 28 :=
  BitVec.extractLsb'_append_extractLsb'_eq_extractLsb' rfl

/-- ABRT takes no operand, so any further bit in its word is a must-be-zero bit (R97, R99). -/
theorem decode_of_abrt_with_bits (hop : opField w = 3#4) (hbits : w.extractLsb' 0 28 ≠ 0#28) :
    decode w = .illegal .reservedBits := by
  have hdefined : opField w < 4#4 := lt_of_eq_of_lt hop (by decide)
  have hother : opField w ≠ 2#4 := by rw [hop]; decide
  refine decode_of_reserved_bits hdefined ((Decidable.em (zeroField w = 0#12)).symm.imp_right ?_)
  refine fun hzero => ⟨hother, fun hlow => hbits ?_⟩
  rw [← zeroField_append_operands, hzero, hlow, BitVec.zero_append_zero]

/-- Settles O14: by the values of STATE, in two pairs, and the must-be-zero bits of the word. -/
theorem abrtReturnsToIdle : Obligations.AbrtReturnsToIdle :=
  ⟨by decide, fun _ _ _ ha hop hbits hr => step_illegal ha (decode_of_abrt_with_bits hop hbits) hr,
    fun _ => ⟨fun hr => ⟨exec_abrt_of_busy_or_done hr, engineStep_not_run nofun⟩,
      exec_abrt_ignored⟩⟩

/-- Settles O35: the read is the move taken. -/
theorem csrReadHasNoSideEffect : Obligations.CsrReadHasNoSideEffect :=
  fun _ _ _ ha => step_move ha

/-! ### FAULT -/

theorem exec_of_fault (hr : s.runState = .fault) (i : Instr) : exec i s = .next s := by
  cases i with
  | nop => rfl
  | unpk => simp [exec, execUnpk, hr]
  | btst b k => exact exec_btst_of_fault hr
  | abrt => exact exec_abrt_ignored (.inr hr)

theorem command_of_fault (hr : s.runState = .fault) (w : Word) : command w s = .next s := by
  cases hd : decode w with
  | command i => simp [command, hd, exec_of_fault hr]
  | illegal why => simp [command, hd, hr]

theorem csrWrite_of_fault (hr : s.runState = .fault) (n : BitVec 4) (v : Word) :
    csrWrite n v s = .next s := by
  unfold csrWrite
  split
  · exact command_of_fault hr v
  · exact writePgLen_ignored (.inr hr) v
  · rfl

/-- Settles O15: each kind of write tests STATE first. -/
theorem faultStateIgnoresEveryWrite : Obligations.FaultStateIgnoresEveryWrite :=
  fun _ hr => ⟨exec_of_fault hr, csrWrite_of_fault hr, engineStep_not_run (by simp [hr])⟩

/-! ### The state diagram -/

theorem raise_cause_ne_zero (s : State) (f : FaultCause) (info : Word) :
    (s.raise f info).cause ≠ 0 :=
  causeCode_ne_zero f

/-- The arrows of the state diagram, each with the move that takes it (R160). -/
theorem runState_of_transition (tr : Transition m s t) (hne : t.runState ≠ s.runState) :
    (t.runState = .run ∧ s.Ready ∧ ∃ w, m = some (.csrWrite 0 w) ∧ decode w = .command .unpk) ∨
    (t.runState = .done ∧ s.runState = .run ∧ s.cellIdx = s.nlim) ∨
    (t.runState = .idle ∧ (s.runState = .run ∨ s.runState = .done) ∧
      ∃ w, m = some (.csrWrite 0 w) ∧ decode w = .command .abrt) ∨
    (t.runState = .fault ∧ t.cause ≠ 0) ∨
    (t.runState = .idle ∧ m = some .reset) := by
  cases tr with
  | start w hm hd hr => exact .inl ⟨rfl, hr, w, hm, hd⟩
  | complete _ hr hi => exact .inr (.inl ⟨rfl, hr, hi⟩)
  | abort w hm hd hr => exact .inr (.inr (.inl ⟨rfl, hr, w, hm, hd⟩))
  | bounds | busy | illegal | range =>
    exact .inr (.inr (.inr (.inl ⟨rfl, raise_cause_ne_zero _ _ _⟩)))
  | reset hm => exact .inr (.inr (.inr (.inr ⟨rfl, hm⟩)))
  | _ => exact absurd rfl hne

/-- Settles O17: by the transition a step is. -/
theorem runStateFollowsTheDiagram : Obligations.RunStateFollowsTheDiagram := by
  intro s t hst hne
  obtain ⟨l, tr⟩ := step_transition hst
  exact runState_of_transition (s := s.setAgenda l) tr hne

/-- The engine enters DONE only at I = NLIM (R164). -/
theorem cellIdx_eq_nlim_of_engineStep_done (hr : s.runState = .run) (h : engineStep s = .next t)
    (hd : t.runState = .done) : s.cellIdx = s.nlim := by
  have harrow := runState_of_transition (engineStep_transition (m := none) (.inl rfl) h)
    (by simp [hr, hd])
  simpa [hr, hd] using harrow

/-- Under the invariant a running engine stands below NLIM or at it (R164). -/
theorem cellIdx_lt_or_eq (h : s.Inv) : s.cellIdx < s.nlim ∨ s.cellIdx = s.nlim :=
  (Nat.lt_or_eq_of_le h.idx_le).imp_right BitVec.eq_of_toNat_eq

/-- Settles O22: I is at most NLIM, so the two conditions share out the states of a run. -/
theorem completionStepSetsDone : Obligations.CompletionStepSetsDone := by
  refine ⟨fun s => engineStep_complete, fun s t => cellIdx_eq_nlim_of_engineStep_done,
    fun s h _ => ?_⟩
  exact (cellIdx_lt_or_eq h).imp (fun hlt => ⟨hlt, BitVec.ne_of_lt hlt⟩)
    fun heq => ⟨fun hlt => BitVec.ne_of_lt hlt heq, heq⟩

end Sys2Proof.Machine
end

section
/-! SUPPORT. Every run ends (42_unpack_sequencer.md R164, R231): with real memory behind both ports
a transition of a run ends it or brings its end nearer, until the model stops at a host access. -/

namespace Sys2Proof.Machine

variable {s t : State} {m : Option HostMove}

/-- A run in progress under the invariant, with real memory behind both ports (R229). -/
structure State.BackedRun (s : State) : Prop where
  inv : s.Inv
  running : s.runState = .run
  lenHonest : s.LenHonest
  rasterProvided : s.RasterProvided

/-! ### The engine -/

/-- A running engine completes at I = NLIM and processes a cell below it (R163, R164). -/
theorem engineStep_of_backedRun (h : s.BackedRun) :
    (s.cellIdx = s.nlim ∧ engineStep s = .next (s.setRunState .done)) ∨
      (s.cellIdx < s.nlim ∧ engineStep s = .next s.processCell) := by
  rcases cellIdx_lt_or_eq h.inv with hi | hi
  · exact .inr ⟨hi, engineStep_processCell h.inv h.running hi h.lenHonest h.rasterProvided⟩
  · exact .inl ⟨hi, engineStep_complete h.running hi⟩

/-- A cell step leaves one cell less to go (R22, R231). -/
theorem processCell_toGo (hi : s.cellIdx < s.nlim) :
    (s.processCell.nlim.toNat - s.processCell.cellIdx.toNat) + 1 =
      s.nlim.toNat - s.cellIdx.toNat := by
  have hlt : s.cellIdx.toNat < s.nlim.toNat := hi
  rw [State.processCell_cellIdx, State.processCell_nlim, toNat_add_one_of_lt hi]
  omega

/-- Settles O23: by the two engine steps. -/
theorem runningEngineAlwaysAdvances : Obligations.RunningEngineAlwaysAdvances := by
  intro s h hr hl hp
  rcases engineStep_of_backedRun ⟨h, hr, hl, hp⟩ with ⟨hi, hst⟩ | ⟨hi, hst⟩
  · exact ⟨_, hst, .inl ⟨hi, rfl, rfl⟩⟩
  · exact ⟨_, hst, .inr ⟨hr, rfl, processCell_toGo hi⟩⟩

/-! ### Where the model stops -/

theorem exec_next (i : Instr) (s : State) : ∃ t, exec i s = .next t := by
  cases i with
  | nop => exact ⟨s, rfl⟩
  | unpk => cases hr : s.runState <;> simp [exec, execUnpk, hr]
  | btst b k =>
    by_cases hr : s.runState = .fault
    · exact ⟨_, exec_btst_of_fault hr⟩
    · rcases Nat.lt_or_ge 7 k.toNat with hk | hk
      · exact ⟨_, exec_btst_of_gt hr hk⟩
      · exact ⟨_, exec_btst_of_le hr hk⟩
  | abrt => cases hr : s.runState <;> simp [exec, execAbrt, hr]

theorem command_next (w : Word) (s : State) : ∃ t, command w s = .next t := by
  cases hd : decode w with
  | command i => simpa [command, hd] using exec_next i s
  | illegal why => by_cases hr : s.runState = .fault <;> simp [command, hd, hr]

/-- A CSR write always has a next state (R160, R167). -/
theorem csrWrite_next (n : BitVec 4) (v : Word) (s : State) : ∃ t, csrWrite n v s = .next t := by
  unfold csrWrite
  split
  · exact command_next v s
  · cases hr : s.runState <;> simp [writePgLen, hr]
  · exact ⟨s, rfl⟩

theorem engineStep_next (h : s.BackedRun) : ∃ t, engineStep s = .next t := by
  rcases engineStep_of_backedRun h with ⟨-, hst⟩ | ⟨-, hst⟩
  · exact ⟨_, hst⟩
  · exact ⟨_, hst⟩

theorem backedRun_setAgenda (h : s.BackedRun) (l : List HostMove) : (s.setAgenda l).BackedRun :=
  ⟨inv_setAgenda h.inv l, h.running, h.lenHonest, h.rasterProvided⟩

/-- In a run no move but a host access to PG or RB lacks a next state (logs 4, 9, 10). -/
theorem takeMove_next {x : HostMove} (h : s.BackedRun) (hx : x.isMemoryAccess = false)
    (rest : List HostMove) : ∃ t, takeMove x rest s = .next t := by
  cases x with
  | engine => exact engineStep_next (backedRun_setAgenda h rest)
  | wait => exact (takeMove_wait_of_run h.running).symm ▸ engineStep_next h
  | reset => exact ⟨_, rfl⟩
  | csrRead n => exact ⟨_, rfl⟩
  | csrWrite n v => exact csrWrite_next n v _
  | _ => cases hx

/-- Where a run has no next state, a host access to PG or RB is next. -/
theorem memoryAccess_of_stop (h : s.BackedRun) (hstop : ∀ t, step s ≠ .next t) :
    ∃ x, s.agenda.head? = some x ∧ x.isMemoryAccess = true := by
  cases ha : s.agenda with
  | nil =>
    obtain ⟨t, ht⟩ := engineStep_next h
    exact absurd ((step_idle_agenda ha).trans ht) (hstop t)
  | cons x rest =>
    refine ⟨x, rfl, Bool.of_not_eq_false fun hx => ?_⟩
    obtain ⟨t, ht⟩ := takeMove_next h hx rest
    exact hstop t ((step_move ha).trans ht)

/-! ### Each transition brings the end nearer -/

/-- The transitions a run can still take: the moves waiting and the cells to go (R231). -/
def State.toGo (s : State) : Nat := s.agenda.length + (s.nlim.toNat - s.cellIdx.toNat)

theorem contendedWrite_size (s : State) (o : Nat) (v : Byte) :
    (s.contendedWrite o v).rb.size = s.rb.size := by
  rw [State.contendedWrite_rb]
  split <;> rfl

/-- A run that goes on keeps its memories, and NLIM - I does not grow. -/
theorem backedRun_of_transition (tr : Transition m s t) (h : s.BackedRun)
    (hr : t.runState = .run) :
    t.BackedRun ∧ t.nlim.toNat - t.cellIdx.toNat ≤ s.nlim.toNat - s.cellIdx.toNat := by
  have hinv := inv_of_transition tr h.inv
  have hl := h.lenHonest
  have hp := h.rasterProvided
  cases tr with
  | cell _ _ hi => exact ⟨⟨hinv, hr, hl, hp⟩, Nat.le_of_succ_le (processCell_toGo hi).le⟩
  | start _ _ _ hr' | setLen _ _ hr' =>
    rcases hr' with h' | h' <;> exact nomatch h.running.symm.trans h'
  | placePg _ _ hr' | placeRb _ _ hr' => exact absurd h.running hr'
  | contendRb o v =>
    exact ⟨⟨hinv, hr, hl, hp.trans_eq (contendedWrite_size s o v).symm⟩, le_rfl⟩
  | stay | bit | read | readRb | writePg | contendPg | writeRb =>
    exact ⟨⟨hinv, hr, hl, hp⟩, le_rfl⟩
  | _ => exact nomatch hr

/-- A step is the engine's, or takes a move off the agenda (R171). -/
theorem step_engine_or_takes_move (hst : step s = .next t) :
    engineStep s = .next t ∨ t.agenda.length < s.agenda.length := by
  cases ha : s.agenda with
  | nil => exact .inl ((step_idle_agenda ha).symm.trans hst)
  | cons x rest =>
    have hmove : takeMove x rest s = .next t := (step_move ha).symm.trans hst
    have htaken : t.agenda = rest → t.agenda.length < (x :: rest).length :=
      fun h => h ▸ Nat.lt_succ_self _
    cases hx : x.isEngineTurn with
    | false => exact .inr (htaken (takeMove_agenda hx hmove))
    | true =>
      cases x with
      | engine =>
        exact .inr (htaken (transition_agenda (engineStep_transition (m := none) (.inl rfl) hmove)))
      | wait =>
        by_cases hr : s.runState = .run
        · exact .inl ((takeMove_wait_of_run hr).symm.trans hmove)
        · obtain rfl := Outcome.next_inj ((takeMove_wait_of_not_run hr).symm.trans hmove)
          exact .inr (htaken rfl)
      | _ => cases hx

/-- While the run goes on, each step brings its end nearer (R231). -/
theorem toGo_lt_of_step (h : s.BackedRun) (hst : step s = .next t) (hr : t.runState = .run) :
    t.BackedRun ∧ t.toGo < s.toGo := by
  obtain ⟨l, tr⟩ := step_transition hst
  obtain ⟨hbacked, hle⟩ := backedRun_of_transition tr (backedRun_setAgenda h l) hr
  refine ⟨hbacked, ?_⟩
  rcases step_engine_or_takes_move hst with hengine | htaken
  · rcases engineStep_of_backedRun h with ⟨-, hend⟩ | ⟨hi, hcell⟩
    · obtain rfl := Outcome.next_inj (hend.symm.trans hengine)
      exact nomatch hr
    · obtain rfl := Outcome.next_inj (hcell.symm.trans hengine)
      have hone := processCell_toGo hi
      simp only [State.toGo, State.processCell_agenda]
      omega
  · exact Nat.add_lt_add_of_lt_of_le htaken hle

/-- A run ends within the transitions still to go and one more, or stops at a host access. -/
theorem backedRun_ends (h : s.BackedRun) : ∃ k ≤ s.toGo + 1, ∃ u, s.runFor k = .next u ∧
    (u.runState ≠ .run ∨
      ((∃ x, u.agenda.head? = some x ∧ x.isMemoryAccess = true) ∧ ∀ t, step u ≠ .next t)) := by
  induction hn : s.toGo using Nat.strong_induction_on generalizing s with
  | _ n ih =>
    by_cases hnext : ∃ t, step s = .next t
    · obtain ⟨t, hst⟩ := hnext
      by_cases hr : t.runState = .run
      · obtain ⟨hbacked, hlt⟩ := toGo_lt_of_step h hst hr
        obtain ⟨k, hk, u, hu, hend⟩ := ih t.toGo (hn ▸ hlt) hbacked rfl
        exact ⟨k + 1, by omega, u, (runFor_succ k hst).trans hu, hend⟩
      · exact ⟨1, by omega, t, runFor_succ 0 hst, .inl hr⟩
    · have hstop : ∀ t, step s ≠ .next t := not_exists.1 hnext
      exact ⟨0, by omega, s, rfl, .inr ⟨memoryAccess_of_stop h hstop, hstop⟩⟩

/-- Settles O54: by induction on the transitions still to go. -/
theorem everyRunEnds : Obligations.EveryRunEnds :=
  fun _ h hr hl hp => backedRun_ends ⟨h, hr, hl, hp⟩

end Sys2Proof.Machine
end

section
/-! SUPPORT. The exceptions (60_exceptions.md R190 to R198): what raises each fault the statements
name, and that FAULT keeps the registers until reset. -/

namespace Sys2Proof.Machine

variable {s t : State} {m : Option HostMove}

/-! ### Raising a fault -/

/-- Settles O8: each ground breaks a row's constraint, so the word is ILLEGAL. -/
theorem illegalWordRaisesIllegalCommand : Obligations.IllegalWordRaisesIllegalCommand := by
  intro s w rest ha hr hground
  have hill : wellFormedWord w = false :=
    hground.elim wellFormedWord_eq_false_of_opcode wellFormedWord_eq_false_of_bits
  exact step_illegal ha (decode_of_not_wellFormed hill) hr

/-- UNPK while BUSY raises BusyFault with its own word (R193). -/
theorem exec_unpk_of_run (hr : s.runState = .run) :
    exec .unpk s = .next (s.raise .busyFault (encode .unpk)) := by
  simp [exec, execUnpk, hr]

/-- Settles O12: by the meaning of UNPK in RUN, and in IDLE and DONE. -/
theorem unpkWhileBusyRaisesBusyFault : Obligations.UnpkWhileBusyRaisesBusyFault := by
  refine ⟨fun s hr => ⟨?_, engineStep_not_run nofun⟩, fun s t hr ht => ?_⟩
  · have hword : encode .unpk = 0x10000000#32 := by decide
    rw [exec_unpk_of_run hr, hword]
    rfl
  · obtain rfl := Outcome.next_inj ((exec_unpk_ready hr).symm.trans ht)
    exact ⟨rfl, rfl, rfl⟩

/-- Settles O24: the two grounds are the two failed bounds checks of the cell step. -/
theorem outOfBoundsCellStepFaults : Obligations.OutOfBoundsCellStepFaults :=
  fun _ hr hi hout => engineStep_bounds hr hi
    (hout.imp Nat.not_lt.2 fun ⟨hbacked, hrb⟩ => ⟨hbacked, Nat.not_lt.2 hrb⟩)

/-! ### Staying in FAULT -/

/-- In FAULT only host reads and host accesses to the two memories do anything, and they write no
register; every other transition but reset needs another STATE (R196, R198). -/
theorem registers_of_fault_transition (tr : Transition m s t) (hf : s.runState = .fault)
    (hm : m ≠ some .reset) :
    t.runState = .fault ∧ t.cause = s.cause ∧ t.finfo = s.finfo ∧ t.cellIdx = s.cellIdx ∧
    t.cnt = s.cnt ∧ t.nlim = s.nlim ∧ t.pgLen = s.pgLen ∧ t.short = s.short ∧
    t.long = s.long ∧ t.result = s.result := by
  cases tr with
  | reset hm' => exact absurd hm' hm
  | stay | read | readRb | placePg | writePg | placeRb | writeRb =>
    exact ⟨hf, rfl, rfl, rfl, rfl, rfl, rfl, rfl, rfl, rfl⟩
  | illegal _ _ _ _ hr | range _ _ _ _ _ _ hr | bit _ _ _ _ _ _ hr => exact absurd hf hr
  | cell _ hr | bounds _ hr | complete _ hr | busy _ _ _ hr | contendPg _ _ _ hr
  | contendRb _ _ _ hr => exact nomatch hf.symm.trans hr
  | start _ _ _ hr | abort _ _ _ hr | setLen _ _ hr =>
    rcases hr with hr | hr <;> exact nomatch hf.symm.trans hr

/-- Settles O16: by the transition a step is. -/
theorem onlyResetLeavesFault : Obligations.OnlyResetLeavesFault := by
  intro s t hf hm hst
  obtain ⟨l, tr⟩ := step_transition hst
  exact registers_of_fault_transition (s := s.setAgenda l) tr hf hm

end Sys2Proof.Machine
end

section
/-! SUPPORT. Reset and the hazards (70_reset_and_hazards.md R220, R225, R229, R231): what reset leaves
in the CSRs, what the host's writes while BUSY leave open, and that the engine's turn always comes. -/

namespace Sys2Proof.Machine

variable {s t : State}

/-! ### Fairness -/

/-- Every move that is no turn of the engine leaves the agenda when it is taken, so the engine's turn
comes within as many transitions as moves are waiting, or the model stops before (R231, log 8). -/
theorem engineNext_within_agenda (s : State) :
    ∃ j ≤ s.agenda.length, ∀ v, s.runFor j = .next v → v.EngineNext := by
  induction hl : s.agenda generalizing s with
  | nil =>
    refine ⟨0, Nat.le_refl 0, fun v hv => ?_⟩
    obtain rfl := Outcome.next_inj hv
    simp [State.EngineNext, hl]
  | cons m rest ih =>
    cases hm : m.isEngineTurn with
    | true =>
      refine ⟨0, Nat.zero_le _, fun v hv => ?_⟩
      obtain rfl := Outcome.next_inj hv
      simp [State.EngineNext, hl, hm]
    | false =>
      by_cases hs : ∃ t, step s = .next t
      · obtain ⟨t, ht⟩ := hs
        have ha : t.agenda = rest := takeMove_agenda hm ((step_move hl).symm.trans ht)
        obtain ⟨j, hj, hnext⟩ := ih t ha
        exact ⟨j + 1, Nat.succ_le_succ hj,
          fun v hv => hnext v ((runFor_succ j ht).symm.trans hv)⟩
      · exact ⟨1, Nat.succ_le_succ (Nat.zero_le _),
          fun v hv => absurd hv (runFor_stop 0 (not_exists.1 hs) v)⟩

/-- Settles O53: from any state, in a run or not, the waiting moves run out. -/
theorem everyScheduleIsFair : Obligations.EveryScheduleIsFair := by
  intro s k u _
  obtain ⟨j, -, hnext⟩ := engineNext_within_agenda u
  exact ⟨j, fun v hv => .inr (hnext v hv)⟩

/-! ### Memory that is not there -/

/-- Settles O48: by the two memory checks of the cell step. -/
theorem unbackedAccessIsRefused : Obligations.UnbackedAccessIsRefused :=
  fun _ hr hi ha =>
    ⟨fun hp => engineStep_pgNotBacked hr hi ha (Nat.not_lt.2 hp),
      fun hp hb hq => engineStep_rbNotBacked hr hi ha hp hb (Nat.not_lt.2 hq)⟩

/-! ### Accesses of the host while BUSY -/

/-- Below the run limit the one next state of a running engine is the processed cell: BoundsFault is
unreachable (R194) and missing memory is refused (U5). -/
theorem eq_processCell_of_engineStep (h : s.Inv) (hr : s.runState = .run) (hi : s.cellIdx < s.nlim)
    (hst : engineStep s = .next t) : t = s.processCell := by
  obtain ⟨ha, hb⟩ := cell_in_bounds h hr hi
  by_cases hp : splitByte s.cellIdx.toNat < s.pg.size
  · by_cases hq : pixelOffset s.cellIdx.toNat + 3 < s.rb.size
    · exact Outcome.next_inj ((engineStep_cell hr hi ha hp hb hq).symm.trans hst)
    · exact nomatch (engineStep_rbNotBacked hr hi ha hp hb hq).symm.trans hst
  · exact nomatch (engineStep_pgNotBacked hr hi ha hp).symm.trans hst

/-- A stored byte is the engine's, or a byte of the host that survives (HZ2, log 6). -/
theorem settled_cases (s : State) (a n : Nat) (p : Word) :
    s.settled a n p = laneByte p n ∨
      (a + n ∈ s.rbTouched ∧ s.settled a n p = s.rb.rbByte (a + n)) := by
  unfold State.settled
  split
  · rename_i h
    exact .inr ⟨List.contains_iff_mem.1 (Bool.and_eq_true_iff.1 h).1, rfl⟩
  · exact .inl rfl

/-- Settles O47: the step processes the cell, whose four bytes are settled one by one. -/
theorem contendedStoreOverwritesOrYields : Obligations.ContendedStoreOverwritesOrYields := by
  intro s t h hr hi hst n hn
  obtain rfl := eq_processCell_of_engineStep h hr hi hst
  have hbyte := processCell_byte s hn
  rw [pixelOffset] at hbyte
  rw [hbyte]
  exact settled_cases s _ n _

/-- FETCH of a byte the host has written during the run gives a free value (HZ1, log 5). -/
theorem fetch_of_touched {a : Nat} (h : a ∈ s.pgTouched) : s.fetch a = Config.freeByte s.free :=
  if_pos (List.contains_iff_mem.2 h)

/-- A PG write while BUSY lands and is noted (HZ1). -/
theorem pgWrite_of_run {o : Nat} (hr : s.runState = .run) (ho : o < 2 ^ 32) (hsize : o < s.pg.size)
    (v : Byte) : pgWrite o v s = .next ((s.setPg (s.pg.write o v)).touchPg o) := by
  rw [pgWrite, if_neg (not_not.2 ho), if_neg (not_not.2 hsize), if_pos hr]

/-- Settles O45: the written offset is noted, so its FETCH is free and ownership is lost. -/
theorem pgWriteWhileBusyFreesTheFetch : Obligations.PgWriteWhileBusyFreesTheFetch := by
  intro s o v rest ha hr ho hsize
  exact ⟨_, (step_move ha).trans (pgWrite_of_run (s := s.setAgenda rest) hr ho hsize v),
    fetch_of_touched List.mem_cons_self, rfl, rfl⟩

/-! ### Reset -/

/-- The four CSRs that hold no register read the same over a reset (R46). -/
theorem csrValue_fireReset_constant {n : BitVec 4} (h : n ∈ [0x3#4, 0x4#4, 0xB#4, 0xC#4]) :
    csrValue s.fireReset n = csrValue s n := by
  simp only [List.mem_cons, List.not_mem_nil, or_false] at h
  rcases h with rfl | rfl | rfl | rfl <;> rfl

/-- After reset every other CSR reads 0: its register is at its reset value 0 (R46). -/
theorem csrValue_fireReset_zero {n : BitVec 4} (hwidth : n ≠ 0x3) (hheight : n ≠ 0x4)
    (hlut0 : n ≠ 0xB) (hlut1 : n ≠ 0xC) : csrValue s.fireReset n = 0 := by
  unfold csrValue
  split
  case h_1 => exact (by decide : statusWord .idle false false = 0)
  case h_3 h => exact absurd (BitVec.eq_of_toNat_eq h) hwidth
  case h_4 h => exact absurd (BitVec.eq_of_toNat_eq h) hheight
  case h_11 h => exact absurd (BitVec.eq_of_toNat_eq h) hlut0
  case h_12 h => exact absurd (BitVec.eq_of_toNat_eq h) hlut1
  all_goals rfl

/-- Settles O34: reset is the next move, and the CSRs split into the four constants and the rest. -/
theorem resetClearsTheRegisters : Obligations.ResetClearsTheRegisters := by
  intro s rest ha
  refine ⟨(s.setAgenda rest).fireReset, step_move ha, rfl,
    fun n hn => csrValue_fireReset_constant (s := s.setAgenda rest) hn, fun n => ?_⟩
  split_ifs with hwidth hheight hlut0 hlut1
  · exact hwidth ▸ rfl
  · exact hheight ▸ rfl
  · exact hlut0 ▸ rfl
  · exact hlut1 ▸ rfl
  · exact csrValue_fireReset_zero hwidth hheight hlut0 hlut1

end Sys2Proof.Machine
end
